-- ==== Sys2Proof/Word.lean ====
section
/-! DEFINITION. The two word types of the machine: every register, port and memory cell is a byte or a 16-bit word
(00_scope.md R9, 10_state.md R20). Their bit fields and byte order are in Machine/Bits.lean. -/

namespace Sys2Proof

/-- One byte: the data width of a register, a port and a memory cell (00 R9). -/
abbrev Byte := BitVec 8

/-- A register pair, SP, PC or an address; arithmetic on it is modulo 2^16 (00 R9, 20 R69). -/
abbrev Word := BitVec 16

end Sys2Proof
end

