-- ==== Sys2Proof/Machine/Bits.lean ====
section
/-! DEFINITION. Bit fields, byte order and widening (00_scope.md R12, 10_state.md R21, 20_memory.md R64). -/

namespace Sys2Proof

/-- The high byte of a 16-bit value: `v[15:8]` (00 R12). -/
def hiByte (w : Word) : Byte := w.extractLsb' 8 8

/-- The low byte of a 16-bit value: `v[7:0]` (00 R12). -/
def loByte (w : Word) : Byte := w.extractLsb' 0 8

/-- `hi ++ lo` of 00 R12: `hi * 256 + lo`. -/
def joinBytes (hi lo : Byte) : Word := hi ++ lo

/-- `sext_16(v)` of 00 R12: the byte read as two's complement, widened to 16 bits. -/
def sext16 (v : Byte) : Word := v.signExtend 16

/-- The low nibble of a byte as a number: `v[3:0]`. -/
def lowNibble (v : Byte) : Nat := v.toNat % 16

end Sys2Proof
end

