-- ==== Sys2Proof/Config.lean ====
section
/-! DEFINITION. What an implementation fixes: the named parameters of 00_scope.md R10 that a step reads. They are plain
data, held in State.params and never written, so that a statement for every state is a statement for every value of
the parameters. The parameters that only the reset reads are arguments of Machine/Reset.lean. The spec leaves no
instruction's result open, so there is no free value here. -/

namespace Sys2Proof

/-- `P_UNUSED_OPCODE`, the action of the eleven unused opcodes (00 R10, 46 R335). -/
inductive UnusedOpcode where
  /-- A 4-tick no-op: the default. -/
  | nop
  /-- The core has no further step. -/
  | lockup
  deriving DecidableEq, Repr

/-- `P_IF_WRITE`, how a CPU write combines with IF (00 R10, 20 R88). -/
inductive IfWrite where
  /-- The written byte is ORed in: the default. -/
  | or
  /-- The written byte replaces IF. -/
  | replace
  deriving DecidableEq, Repr

/-- `P_UNUSABLE_READ`, the byte read from 0xFEA0-0xFEFF outside PPU modes 2 and 3 (00 R10, 20 R79). In modes 2 and 3 the
byte is 0xFF whatever the parameter is. -/
inductive UnusableRead where
  /-- R79's default: the high nibble of the low address byte, repeated. -/
  | pattern
  /-- Any other function of (mode 0 or 1, address): entry 96 * mode + (address - 0xFEA0). -/
  | table (bytes : Vector Byte 192)
  deriving DecidableEq, Repr

/-- The parameters a step reads (00 R10). -/
structure Params where
  unusedOpcode : UnusedOpcode
  ifWrite : IfWrite
  unusableRead : UnusableRead
  deriving DecidableEq, Repr

/-- Every parameter at the default that 00 R10 gives it. -/
def Params.default : Params where
  unusedOpcode := .nop
  ifWrite := .or
  unusableRead := .pattern

/-- `P_RESET_PROFILE` (00 R10, 70 R450). -/
inductive ResetProfile where
  /-- The state a program finds at 0x0100 after the boot ROM: the default (70 R451). -/
  | postBoot
  /-- Start at 0x0000 with the boot image mapped (70 R452). -/
  | bootRom
  deriving DecidableEq, Repr

end Sys2Proof
end

