-- ==== Sys2Proof/Machine/Mem.lean ====
section
/-! DEFINITION. One storage array of the core (10_state.md R36) as a list of (offset, byte) cells in ONE canonical form:
offsets strictly rising and below the array's size, and no cell equal to what an unlisted offset reads as. -/

namespace Sys2Proof.Machine

/-- A storage array, by offset within the array. -/
abbrev Mem := List Host.Cell

/-- What an unlisted offset of any array reads as. DESIGN CHOICE (log 2 for RAM, log 3 for ROM), marked unsafe there: 10 R58
leaves RAM at reset a draw and P_CART's bytes are the loader's; 10 R59 forbids to choose zero. -/
def unlistedByte : Byte := 0xFF

/-- The byte at an offset. -/
def Mem.read : Mem → Nat → Byte
  | [], _ => unlistedByte
  | (k, v) :: m, a => if k = a then v else Mem.read m a

/-- The array with one byte written: the cell is put in its place, and removed where the byte is what an unlisted offset
reads as. -/
def Mem.write : Mem → Nat → Byte → Mem
  | [], a, v => if v = unlistedByte then [] else [(a, v)]
  | (k, w) :: m, a, v =>
    if a < k then (if v = unlistedByte then (k, w) :: m else (a, v) :: (k, w) :: m)
    else if a = k then (if v = unlistedByte then m else (a, v) :: m)
    else (k, w) :: Mem.write m a v

/-- The canonical form of the cells from offset `lo` on, in an array of `size` bytes. -/
def Mem.wfFrom (lo size : Nat) : Mem → Bool
  | [] => true
  | (k, v) :: m => decide (lo ≤ k) && decide (k < size) && v != unlistedByte && Mem.wfFrom (k + 1) size m

/-- The canonical form of an array of `size` bytes. -/
def Mem.wf (size : Nat) (m : Mem) : Bool := Mem.wfFrom 0 size m

/-- The canonical array that holds the given cells (the last one where an offset is given twice), those outside the array
left out. -/
def Mem.ofCells (size : Nat) (cells : List Host.Cell) : Mem :=
  cells.foldl (fun m c => if c.1 < size then m.write c.1 c.2 else m) []

/-- The byte a list of cells gives an offset: the last one where it is given twice, the unlisted byte where it is not given. -/
def lastByte (cells : List Host.Cell) (a : Nat) : Byte :=
  cells.foldl (fun v c => if c.1 = a then c.2 else v) unlistedByte

end Sys2Proof.Machine
end

