-- ==== Sys2Proof/Machine/State.lean ====
section
/-! DEFINITION. The machine's state: every piece of state 10_state.md gives (R20-R43), the parameters a step reads
(00_scope.md R10), the joypad host input (00 R11), the reasons a step can stop, and the state after reset. Plain data. -/

namespace Sys2Proof.Machine

/-- The kind of bank controller, chosen from the type byte at load (10 R38, 20 R99). -/
inductive MbcKind where
  | romOnly
  | mbc1
  | mbc5
  deriving DecidableEq, Repr

/-- MBC1's banking mode: 0 = ROM banking, 1 = RAM banking (10 R38, 20 R104). -/
inductive BankingMode where
  | rom
  | ram
  deriving DecidableEq, Repr

/-- The immutable part of the loaded cartridge (10 R38: "The cartridge data itself is immutable"). -/
structure Cart where
  /-- `mbc_kind`. -/
  kind : MbcKind
  /-- `rom_banks`: ROM size in 16 KiB banks. -/
  romBanks : Nat
  /-- `ram_size`: ERAM size in bytes. -/
  ramSize : Nat
  /-- `ROM`: bank k, offset j at 0x4000 * k + j (10 R36). -/
  rom : Mem
  deriving DecidableEq, Repr

/-- The state of the core. -/
structure State where
  /-- A (high) and F (low), stored as one pair (10 R20-R23). -/
  af : Word
  /-- B (high) and C (low). -/
  bc : Word
  /-- D (high) and E (low). -/
  de : Word
  /-- H (high) and L (low). -/
  hl : Word
  /-- Stack pointer (10 R24). -/
  sp : Word
  /-- Program counter (10 R25). -/
  pc : Word
  /-- Interrupt Master Enable (10 R27). -/
  ime : Bool
  /-- `ei_pending`: the previous instruction was EI (10 R27). -/
  eiPending : Bool
  /-- Interrupt Enable mask, at 0xFFFF (10 R28). -/
  ie : Byte
  /-- The I/O port block, ports 0x00-0x7F; IF is port 0x0F (10 R29, R36; 20 R80). -/
  io : Vector Byte 128
  /-- The CPU is in the HALT stall (10 R31). -/
  halted : Bool
  /-- `halt_bug`: the next opcode fetch does not advance PC (10 R32). -/
  haltBug : Bool
  /-- The CPU is in the STOP stall (10 R33). -/
  stopped : Bool
  /-- The double-speed flag (10 R34). -/
  doubleSpeed : Bool
  /-- The speed-switch-armed bit (10 R34). -/
  key1Armed : Bool
  /-- Clock ticks since reset, unbounded (10 R35). -/
  cycles : Nat
  /-- 8 banks of 4096 bytes: bank k, offset j at 0x1000 * k + j (10 R36). -/
  wram : Mem
  /-- 2 banks of 8192 bytes: bank k, offset j at 0x2000 * k + j (10 R36). -/
  vram : Mem
  /-- 160 bytes (10 R36). -/
  oam : Mem
  /-- 127 bytes (10 R36). -/
  hram : Mem
  /-- 64 bytes of background palette (10 R36). -/
  bgPal : Mem
  /-- 64 bytes of object palette (10 R36). -/
  objPal : Mem
  /-- The cartridge's RAM, `ram_size` bytes (10 R36). -/
  eram : Mem
  /-- `boot_rom_mapped` (10 R37). -/
  bootMapped : Bool
  /-- `P_BOOT_ROM`, a 2304-byte image, or absent; never written (10 R36, 20 R93). -/
  bootRom : Option Mem
  /-- The loaded cartridge; never written (10 R38). -/
  cart : Cart
  /-- `rom_bank`: 7 bits used by MBC1, 9 by MBC5 (10 R38). -/
  romBank : BitVec 9
  /-- `ram_bank`: 2 bits used by MBC1, 4 by MBC5 (10 R38). -/
  ramBank : BitVec 4
  /-- `ram_enable` (10 R38). -/
  ramEnable : Bool
  /-- `mbc1_mode` (10 R38). -/
  mbc1Mode : BankingMode
  /-- `hdma_src` (10 R39). -/
  hdmaSrc : Word
  /-- `hdma_dst` (10 R39). -/
  hdmaDst : Word
  /-- `hdma_active` (10 R39). -/
  hdmaActive : Bool
  /-- `hdma_blocks` (10 R39). -/
  hdmaBlocks : BitVec 7
  /-- `JOYP_IN`, the host's joypad lines; a step reads it and never writes it (00 R11). -/
  joypIn : Byte
  /-- The parameters of 00 R10; never written. -/
  params : Params
  deriving DecidableEq, Repr

/-- Why a step has no next state. -/
inductive Fault where
  /-- `lockup` (00 R15): raised by the eleven unused opcodes' meanings (46 R335), only under
  `P_UNUSED_OPCODE = LOCKUP`. Safe: the spec itself gives the step no successor state. -/
  | lockup
  deriving DecidableEq, Repr

/-- Why an instruction or a host call has no meaning. -/
inductive Refusal where
  /-- An instruction that has no meaning yet: raised by no arm of `exec`. Safe: the run stops. -/
  | notModelled (mnemonic : String)
  /-- `request_interrupt(i)` with i outside 0..4, which the spec refuses (60 R412): raised by the host event, never by a
  step. Safe: the spec rejects the call. -/
  | interruptRequestOutOfRange
  deriving DecidableEq, Repr

/-- The stored bytes of the I/O block after a POST_BOOT reset: the values of 10 R58, every drawn bit 1 (log 2). -/
def resetIo : Vector Byte 128 :=
  ((((((Vector.replicate 128 (0xFF : Byte)).set 0x00 0xCF).set 0x0F 0xE1).set 0x4F 0x00).set 0x50 0x11).set 0x55 0xFF).set
    0x70 0x00

/-- The cartridge of State.reset: a ROM_ONLY cartridge of 32 KiB, every byte erased. DESIGN CHOICE (log 3): P_CART is
required and has no default. -/
def resetCart : Cart where
  kind := .romOnly
  romBanks := 2
  ramSize := 0
  rom := []

/-- The machine right after reset: the POST_BOOT column of 10 R58, the default parameters of 00 R10, the draws of 10 R59 at
all ones (log 2), the cartridge `resetCart` (log 3), no key pressed (log 12). -/
def State.reset : State where
  af := 0x1180
  bc := 0x0000
  de := 0xFF56
  hl := 0x000D
  sp := 0xFFFE
  pc := 0x0100
  ime := false
  eiPending := false
  ie := 0x00
  io := resetIo
  halted := false
  haltBug := false
  stopped := false
  doubleSpeed := false
  key1Armed := false
  cycles := 0
  wram := []
  vram := []
  oam := []
  hram := []
  bgPal := []
  objPal := []
  eram := []
  bootMapped := false
  bootRom := none
  cart := resetCart
  romBank := 1
  ramBank := 0
  ramEnable := false
  mbc1Mode := .rom
  hdmaSrc := 0xFFFF
  hdmaDst := 0x9FF0
  hdmaActive := false
  hdmaBlocks := 0x7F
  joypIn := 0xFF
  params := Params.default

/-- What a meaning or a step answers. -/
abbrev Result := Host.Outcome State Fault Refusal

end Sys2Proof.Machine
end

