-- ==== Sys2Proof/Machine/Bus.lean ====
section
/-! DEFINITION. The bus router, its windows, the I/O ports, the bank controller and the DMA copies (20_memory.md R60-R111). -/

namespace Sys2Proof.Machine

/-- The twelve region identifiers of 20 R60. -/
inductive Region where
  | rom0 | romX | vram | eram | wram0 | wramX | echo | oam | unusable | io | hram | ie
  deriving DecidableEq, Repr

/-- One entry of the region table: an identifier and an inclusive address range (20 R60). -/
structure RegionRow where
  id : Region
  first : Nat
  last : Nat
  deriving DecidableEq, Repr

/-- The core's region table, in the order of 20 R60. -/
def regionTable : List RegionRow :=
  [⟨.rom0, 0x0000, 0x3FFF⟩, ⟨.romX, 0x4000, 0x7FFF⟩, ⟨.vram, 0x8000, 0x9FFF⟩, ⟨.eram, 0xA000, 0xBFFF⟩,
   ⟨.wram0, 0xC000, 0xCFFF⟩, ⟨.wramX, 0xD000, 0xDFFF⟩, ⟨.echo, 0xE000, 0xFDFF⟩, ⟨.oam, 0xFE00, 0xFE9F⟩,
   ⟨.unusable, 0xFEA0, 0xFEFF⟩, ⟨.io, 0xFF00, 0xFF7F⟩, ⟨.hram, 0xFF80, 0xFFFE⟩, ⟨.ie, 0xFFFF, 0xFFFF⟩]

/-- The entries cover exactly `lo .. 0xFFFF`, in order, without gap or overlap. -/
def coversFrom : Nat → List RegionRow → Bool
  | lo, [] => lo == 0x10000
  | lo, r :: rs => r.first == lo && decide (r.first ≤ r.last) && decide (r.last ≤ 0xFFFF) && coversFrom (r.last + 1) rs

/-- The configuration checks of 20 R60 for a table listed by rising address: valid ranges, no identifier twice, no overlap,
no gap. -/
def tableValid (t : List RegionRow) : Bool :=
  decide ((t.map RegionRow.id).Nodup) && coversFrom 0 t

/-- The region of an address: the unique entry of the table that contains it (20 R60, R61). -/
def resolve (addr : Word) : Region :=
  let a := addr.toNat
  if a < 0x4000 then .rom0
  else if a < 0x8000 then .romX
  else if a < 0xA000 then .vram
  else if a < 0xC000 then .eram
  else if a < 0xD000 then .wram0
  else if a < 0xE000 then .wramX
  else if a < 0xFE00 then .echo
  else if a < 0xFEA0 then .oam
  else if a < 0xFF00 then .unusable
  else if a < 0xFF80 then .io
  else if a < 0xFFFF then .hram
  else .ie

/-! ### Stored ports -/

/-- The stored byte of an I/O port (20 R80). -/
def State.port (s : State) (p : BitVec 7) : Byte := s.io.get p.toFin

/-- The I/O block with one stored byte replaced (20 R80). -/
def State.setPort (s : State) (p : BitVec 7) (v : Byte) : State :=
  { s with io := s.io.set p.toNat v p.isLt }

/-- IF: the stored byte of port 0x0F (10 R29). -/
def State.ifReg (s : State) : Byte := s.port 0x0F

/-- IF with a new stored byte (10 R29). -/
def State.setIf (s : State) (v : Byte) : State := s.setPort 0x0F v

/-! ### Windows -/

/-- The WRAM bank shown at 0xD000: SVBK's low 3 bits, 0 meaning 1 (20 R74). -/
def State.wramBank (s : State) : Nat :=
  let b := (s.port 0x70).toNat % 8
  if b = 0 then 1 else b

/-- The offset in WRAM of an address 0xC000-0xDFFF (20 R73, R74). -/
def State.wramIndex (s : State) (a : Nat) : Nat :=
  if a < 0xD000 then a - 0xC000 else s.wramBank * 0x1000 + (a - 0xD000)

/-- The VRAM bank: VBK bit 0 (20 R71). -/
def State.vramBank (s : State) : Nat := (s.port 0x4F).toNat % 2

/-- The offset in VRAM of the byte `off` of the selected bank (20 R71). -/
def State.vramIndex (s : State) (off : Nat) : Nat := s.vramBank * 0x2000 + off

/-- The offset in ROM of an address 0x0000-0x7FFF (20 R100, R105, R110). -/
def State.romIndex (s : State) (a : Nat) : Nat :=
  match s.cart.kind with
  | .romOnly => a
  | .mbc1 | .mbc5 =>
    if a < 0x4000 then a else s.romBank.toNat % s.cart.romBanks * 0x4000 + (a - 0x4000)

/-- The addresses the boot ROM overlays while it is mapped (20 R93). -/
def bootOverlays (a : Nat) : Bool := decide (a < 0x0100) || (decide (0x0200 ≤ a) && decide (a < 0x0900))

/-- A read of the ROM window: the boot image where it is overlaid, else the bank controller (20 R70, R93). -/
def State.romRead (s : State) (a : Nat) : Byte :=
  match s.bootMapped && bootOverlays a, s.bootRom with
  | true, some image => image.read a
  | _, _ => s.cart.rom.read (s.romIndex a)

/-- The external RAM answers: there is one, and MBC1 or MBC5 has it enabled (20 R100, R111). -/
def State.eramOpen (s : State) : Bool :=
  s.cart.kind != .romOnly && s.cart.ramSize != 0 && s.ramEnable

/-- `ram_banks` of 20 R99. -/
def Cart.ramBanks (c : Cart) : Nat := max 1 (c.ramSize / 8192)

/-- The offset in ERAM of an address 0xA000-0xBFFF (20 R111). -/
def State.eramIndex (s : State) (a : Nat) : Nat :=
  (s.ramBank.toNat % s.cart.ramBanks * 0x2000 + (a - 0xA000)) % s.cart.ramSize

/-- A read of the external-RAM window (20 R100, R111). -/
def State.eramRead (s : State) (a : Nat) : Byte :=
  if s.eramOpen then s.eram.read (s.eramIndex a) else 0xFF

/-- A write to the external-RAM window (20 R100, R111). -/
def State.eramWrite (s : State) (a : Nat) (v : Byte) : State :=
  if s.eramOpen then { s with eram := s.eram.write (s.eramIndex a) v } else s

/-- A read of the not-usable region 0xFEA0-0xFEFF: 0xFF in PPU modes 2 and 3, else P_UNUSABLE_READ (20 R79, R98). -/
def State.unusableRead (s : State) (a : Nat) : Byte :=
  let mode := (s.port 0x41).toNat % 4
  if 2 ≤ mode then 0xFF
  else match s.params.unusableRead with
    | .pattern => BitVec.ofNat 8 (a / 16 % 16 * 0x11)
    | .table bytes => bytes.getD (96 * mode + (a - 0xFEA0)) 0xFF

/-! ### Port reads -/

/-- P1 read: the selected groups of joypad lines (20 R84). -/
def State.readP1 (s : State) : Byte :=
  let p := s.port 0x00
  let directions : Byte := if p.getLsbD 4 then 0x0F else s.joypIn &&& 0x0F
  let buttons : Byte := if p.getLsbD 5 then 0x0F else s.joypIn >>> 4
  0xC0 ||| (p &&& 0x30) ||| (directions &&& buttons)

/-- KEY1 read: current speed, ones, armed bit (20 R94). -/
def State.readKey1 (s : State) : Byte :=
  (if s.doubleSpeed then 0x80 else 0x00) ||| 0x7E ||| (if s.key1Armed then 0x01 else 0x00)

/-- The palette index in an index register: bits 5:0 (20 R96). -/
def paletteIndex (spec : Byte) : Nat := spec.toNat % 64

/-- A read of an I/O port (20 R80, R84, R94, R97; every other port returns its stored byte). -/
def State.readPort (s : State) (p : BitVec 7) : Byte :=
  if p = 0x00 then s.readP1
  else if p = 0x4D then s.readKey1
  else if p = 0x69 then s.bgPal.read (paletteIndex (s.port 0x68))
  else if p = 0x6B then s.objPal.read (paletteIndex (s.port 0x6A))
  else s.port p

/-- `MemRead(addr, 1)`: one bus read (20 R61). A read changes no state (20 R68). -/
def State.busRead (s : State) (addr : Word) : Byte :=
  match resolve addr with
  | .rom0 | .romX => s.romRead addr.toNat
  | .vram => s.vram.read (s.vramIndex (addr.toNat - 0x8000))
  | .eram => s.eramRead addr.toNat
  | .wram0 | .wramX => s.wram.read (s.wramIndex addr.toNat)
  | .echo => s.wram.read (s.wramIndex (addr.toNat - 0x2000))
  | .oam => s.oam.read (addr.toNat - 0xFE00)
  | .unusable => s.unusableRead addr.toNat
  | .io => s.readPort (addr.setWidth 7)
  | .hram => s.hram.read (addr.toNat - 0xFF80)
  | .ie => s.ie

/-! ### Bank-controller writes -/

/-- A write to the ROM window: it changes no ROM byte, only bank registers (20 R70, R100-R109). -/
def State.mbcWrite (s : State) (a : Nat) (v : Byte) : State :=
  match s.cart.kind with
  | .romOnly => s
  | .mbc1 =>
    if a < 0x2000 then { s with ramEnable := v.toNat % 16 == 0xA }
    else if a < 0x4000 then
      let low := v.toNat % 32
      { s with romBank := (s.romBank &&& 0x60) ||| BitVec.ofNat 9 (if low = 0 then 1 else low) }
    else if a < 0x6000 then
      match s.mbc1Mode with
      | .rom => { s with romBank := (s.romBank &&& 0x1F) ||| BitVec.ofNat 9 (v.toNat % 4 * 32) }
      | .ram => { s with ramBank := BitVec.ofNat 4 (v.toNat % 4) }
    else { s with mbc1Mode := if v.getLsbD 0 then .ram else .rom }
  | .mbc5 =>
    if a < 0x2000 then { s with ramEnable := v.toNat % 16 == 0xA }
    else if a < 0x3000 then { s with romBank := (s.romBank &&& 0x100) ||| v.setWidth 9 }
    else if a < 0x4000 then { s with romBank := (s.romBank &&& 0x0FF) ||| BitVec.ofNat 9 (v.toNat % 2 * 256) }
    else if a < 0x6000 then { s with ramBank := v.setWidth 4 }
    else s

/-! ### DMA copies -/

/-- OAM DMA's loop: `n` more bytes from index `i`, read through the router (20 R89). -/
def oamCopy (page : Byte) : (n i : Nat) → State → State
  | 0, _, s => s
  | n + 1, i, s =>
    oamCopy page n (i + 1) { s with oam := s.oam.write i (s.busRead (BitVec.ofNat 16 (page.toNat * 256 + i))) }

/-- HDMA's loop: `n` more bytes from index `i`, read through the router into the selected VRAM bank, the destination wrapping
inside VRAM (20 R91, R92). -/
def vramCopy (src dst : Word) : (n i : Nat) → State → State
  | 0, _, s => s
  | n + 1, i, s =>
    vramCopy src dst n (i + 1)
      { s with vram := s.vram.write (s.vramIndex ((dst.toNat + i) % 0x2000)) (s.busRead (src + BitVec.ofNat 16 i)) }

/-- A destination moved on by `k` bytes, kept inside VRAM (20 R91, R92). -/
def vramDest (dst : Word) (k : Nat) : Word := 0x8000 ||| BitVec.ofNat 16 ((dst.toNat + k) % 0x2000)

/-- The source HDMA1 and HDMA2 give (20 R90). -/
def State.hdmaSource (s : State) : Word := joinBytes (s.port 0x51) (s.port 0x52) &&& 0xFFF0

/-- The destination HDMA3 and HDMA4 give (20 R90). -/
def State.hdmaDest (s : State) : Word := 0x8000 ||| (joinBytes (s.port 0x53) (s.port 0x54) &&& 0x1FF0)

/-- HDMA5 write: cancel an armed transfer, run a general-purpose copy, or arm an HBlank transfer (20 R91). -/
def State.writeHdma5 (s : State) (v : Byte) : State :=
  if s.hdmaActive && !v.getLsbD 7 then
    { s.setPort 0x55 (0x80 ||| s.hdmaBlocks.setWidth 8) with hdmaActive := false }
  else
    let src := s.hdmaSource
    let dst := s.hdmaDest
    let bytes := (v.toNat % 128 + 1) * 16
    if v.getLsbD 7 then
      { s.setPort 0x55 (v &&& 0x7F) with
        hdmaSrc := src, hdmaDst := dst, hdmaBlocks := v.setWidth 7, hdmaActive := true }
    else
      { (vramCopy src dst bytes 0 s).setPort 0x55 0xFF with
        hdmaSrc := src + BitVec.ofNat 16 bytes, hdmaDst := vramDest dst bytes, hdmaActive := false }

/-! ### Port writes -/

/-- P1 write: only the two selector bits (20 R83). -/
def State.writeP1 (s : State) (v : Byte) : State := s.setPort 0x00 ((s.port 0x00 &&& 0xCF) ||| (v &&& 0x30))

/-- IF write by the CPU (20 R88). -/
def State.writeIf (s : State) (v : Byte) : State :=
  match s.params.ifWrite with
  | .or => s.setIf (s.ifReg ||| v)
  | .replace => s.setIf v

/-- DMA write: store, then copy 160 bytes to OAM (20 R89). -/
def State.writeDma (s : State) (v : Byte) : State := oamCopy v 160 0 (s.setPort 0x46 v)

/-- Boot-ROM-disable write: store, and 0x11 unmaps for good (20 R93). -/
def State.writeBoot (s : State) (v : Byte) : State :=
  { s.setPort 0x50 v with bootMapped := s.bootMapped && v != 0x11 }

/-- The index register after a data write: bits 5:0 stepped when bit 7 is set (20 R97). -/
def paletteStep (spec : Byte) : Byte :=
  if spec.getLsbD 7 then (spec &&& 0xC0) ||| BitVec.ofNat 8 ((spec.toNat % 64 + 1) % 64) else spec

/-- BCPD write: through to the indexed background entry (20 R97). -/
def State.writeBcpd (s : State) (v : Byte) : State :=
  { s.setPort 0x68 (paletteStep (s.port 0x68)) with bgPal := s.bgPal.write (paletteIndex (s.port 0x68)) v }

/-- OCPD write: through to the indexed object entry (20 R97). -/
def State.writeOcpd (s : State) (v : Byte) : State :=
  { s.setPort 0x6A (paletteStep (s.port 0x6A)) with objPal := s.objPal.write (paletteIndex (s.port 0x6A)) v }

/-- A write to an I/O port (20 R80, R83, R85, R88, R89, R91, R93, R94, R97; every other port stores the byte). -/
def State.writePort (s : State) (p : BitVec 7) (v : Byte) : State :=
  if p = 0x00 then s.writeP1 v
  else if p = 0x04 then s.setPort 0x04 0x00
  else if p = 0x0F then s.writeIf v
  else if p = 0x46 then s.writeDma v
  else if p = 0x4D then { s with key1Armed := v.getLsbD 0 }
  else if p = 0x50 then s.writeBoot v
  else if p = 0x55 then s.writeHdma5 v
  else if p = 0x69 then s.writeBcpd v
  else if p = 0x6B then s.writeOcpd v
  else s.setPort p v

/-- `MemWrite(addr, 1, v)`: one bus write (20 R62). -/
def State.busWrite (s : State) (addr : Word) (v : Byte) : State :=
  match resolve addr with
  | .rom0 | .romX => s.mbcWrite addr.toNat v
  | .vram => { s with vram := s.vram.write (s.vramIndex (addr.toNat - 0x8000)) v }
  | .eram => s.eramWrite addr.toNat v
  | .wram0 | .wramX => { s with wram := s.wram.write (s.wramIndex addr.toNat) v }
  | .echo => { s with wram := s.wram.write (s.wramIndex (addr.toNat - 0x2000)) v }
  | .oam => { s with oam := s.oam.write (addr.toNat - 0xFE00) v }
  | .unusable => s
  | .io => s.writePort (addr.setWidth 7) v
  | .hram => { s with hram := s.hram.write (addr.toNat - 0xFF80) v }
  | .ie => { s with ie := v }

/-- The byte the write contract returns: what a read right after the write gives (20 R63). No instruction reads it. -/
def State.busWriteReturn (s : State) (addr : Word) (v : Byte) : Byte := (s.busWrite addr v).busRead addr

end Sys2Proof.Machine
end

