-- ==== Sys2Proof/Machine/Ops.lean ====
section
/-! DEFINITION. The named operations over registers and memory: register halves, the clock, the stack (20_memory.md R66),
interrupt dispatch (60_exceptions.md R406-R409) and the return from it (45_control.md R318, R320). -/

namespace Sys2Proof.Machine

/-- Charge clock ticks to the cycle counter (10 R35, 30 R148). -/
def State.tick (s : State) (n : Nat) : State := { s with cycles := s.cycles + n }

/-! ### Register halves (10 R20-R23) -/

def State.a (s : State) : Byte := hiByte s.af
def State.f (s : State) : Byte := loByte s.af
def State.b (s : State) : Byte := hiByte s.bc
def State.c (s : State) : Byte := loByte s.bc
def State.d (s : State) : Byte := hiByte s.de
def State.e (s : State) : Byte := loByte s.de
def State.h (s : State) : Byte := hiByte s.hl
def State.l (s : State) : Byte := loByte s.hl

def State.setA (s : State) (v : Byte) : State := { s with af := joinBytes v s.f }
def State.setB (s : State) (v : Byte) : State := { s with bc := joinBytes v s.c }
def State.setC (s : State) (v : Byte) : State := { s with bc := joinBytes s.b v }
def State.setD (s : State) (v : Byte) : State := { s with de := joinBytes v s.e }
def State.setE (s : State) (v : Byte) : State := { s with de := joinBytes s.d v }
def State.setH (s : State) (v : Byte) : State := { s with hl := joinBytes v s.l }
def State.setL (s : State) (v : Byte) : State := { s with hl := joinBytes s.h v }

/-- Every write to F stores `v & 0xF0` (10 R22). -/
def State.setF (s : State) (v : Byte) : State := { s with af := joinBytes s.a (v &&& 0xF0) }

/-- A write to AF: A from the high byte, F from the low byte without its low nibble (10 R22, 41 R235). -/
def State.setAf (s : State) (v : Word) : State := { s with af := joinBytes (hiByte v) (loByte v &&& 0xF0) }

def State.setBc (s : State) (v : Word) : State := { s with bc := v }
def State.setDe (s : State) (v : Word) : State := { s with de := v }
def State.setHl (s : State) (v : Word) : State := { s with hl := v }
def State.setSp (s : State) (v : Word) : State := { s with sp := v }
def State.setPc (s : State) (v : Word) : State := { s with pc := v }
def State.setIme (s : State) (v : Bool) : State := { s with ime := v }

/-! ### The stack (20 R66) -/

/-- `Push16(v)`: the high byte at SP-1, then the low byte at SP-2. -/
def State.push16 (s : State) (v : Word) : State :=
  let s1 := s.setSp (s.sp - 1)
  let s2 := s1.busWrite s1.sp (hiByte v)
  let s3 := s2.setSp (s2.sp - 1)
  s3.busWrite s3.sp (loByte v)

/-- The value `Pop16()` returns: the low byte at SP, the high byte at SP+1. -/
def State.top16 (s : State) : Word := joinBytes (s.busRead (s.sp + 1)) (s.busRead s.sp)

/-- SP after `Pop16()`. -/
def State.dropTop (s : State) : State := s.setSp (s.sp + 2)

/-! ### Taking an interrupt, and returning (60 R405-R409) -/

/-- The pending-and-enabled set `IE & IF & 0x1F` (60 R405). -/
def State.pending (s : State) : Byte := s.ie &&& s.ifReg &&& 0x1F

/-- The number of the lowest set bit of the pending set, 0..4: the source that priority selects (60 R407). -/
def lowestSource (k : Byte) : Nat :=
  if k.getLsbD 0 then 0
  else if k.getLsbD 1 then 1
  else if k.getLsbD 2 then 2
  else if k.getLsbD 3 then 3
  else 4

/-- `Dispatch(i)`: push the return address, clear IME, ei_pending and the serviced IF bit, go to the vector, leave HALT
(60 R408, R415). -/
def State.dispatch (s : State) (i : Nat) : State :=
  let ret := if s.haltBug then s.pc - 1 else s.pc
  let s1 := { s with haltBug := false }.push16 ret
  let s2 := { s1 with ime := false, eiPending := false }
  let s3 := s2.setIf (s2.ifReg &&& ~~~((1 : Byte) <<< i))
  { s3 with pc := BitVec.ofNat 16 (0x0040 + 8 * i), halted := false }

/-- `InterruptCheck`: at most one dispatch, which costs 20 ticks (60 R406, R409). -/
def State.interruptCheck (s : State) : State :=
  if s.ime && s.pending != 0 then (s.dispatch (lowestSource s.pending)).tick 20 else s

/-- The return of RET, RETI and RET cc: `PC <- Pop16()` (45 R318). -/
def State.popPc (s : State) : State := s.dropTop.setPc s.top16

/-- The return from an interrupt handler: `PC <- Pop16(); IME <- 1` (45 R320, 60 R411). -/
def State.returnFromInterrupt (s : State) : State := s.popPc.setIme true

/-! ### Stall wake-up -/

/-- `HaltWakeCheck` (60 R414). -/
def State.haltWakeCheck (s : State) : State := if s.pending != 0 then { s with halted := false } else s

/-- `StopWakeCheck` (60 R424). -/
def State.stopWakeCheck (s : State) : State := if s.joypIn != 0xFF then { s with stopped := false } else s

end Sys2Proof.Machine
end

