-- ==== Sys2Proof/Machine/Operands.lean ====
section
/-! DEFINITION. The operand tables r8, r16, r16stk and cc (30_encoding.md R143; 45_control.md R310) and the immediate address
forms (30 R142). -/

namespace Sys2Proof.Machine

/-- `r8[i]`; index 6 is the byte in memory at HL (30 R143). -/
inductive R8 where
  | b | c | d | e | h | l | mHL | a
  deriving DecidableEq, Repr

/-- `r16[p]` (30 R143). -/
inductive R16 where
  | bc | de | hl | sp
  deriving DecidableEq, Repr

/-- `r16stk[p]` (30 R143). -/
inductive R16Stk where
  | bc | de | hl | af
  deriving DecidableEq, Repr

/-- `cc[c]` (30 R143). -/
inductive Cond where
  | nz | z | nc | c
  deriving DecidableEq, Repr

/-- The index of an operand in `r8` (30 R143). -/
def R8.index : R8 → Nat
  | .b => 0 | .c => 1 | .d => 2 | .e => 3 | .h => 4 | .l => 5 | .mHL => 6 | .a => 7

/-- The index of an operand in `r16` (30 R143). -/
def R16.index : R16 → Nat
  | .bc => 0 | .de => 1 | .hl => 2 | .sp => 3

/-- The index of an operand in `r16stk` (30 R143). -/
def R16Stk.index : R16Stk → Nat
  | .bc => 0 | .de => 1 | .hl => 2 | .af => 3

/-- The index of a condition in `cc` (30 R143). -/
def Cond.index : Cond → Nat
  | .nz => 0 | .z => 1 | .nc => 2 | .c => 3

/-- The value of `r8[i]`; for index 6 one bus read at HL (30 R143). -/
def State.r8 (s : State) : R8 → Byte
  | .b => s.b
  | .c => s.c
  | .d => s.d
  | .e => s.e
  | .h => s.h
  | .l => s.l
  | .mHL => s.busRead s.hl
  | .a => s.a

/-- A write to `r8[i]`; for index 6 one bus write at HL (30 R143). -/
def State.setR8 (s : State) (r : R8) (v : Byte) : State :=
  match r with
  | .b => s.setB v
  | .c => s.setC v
  | .d => s.setD v
  | .e => s.setE v
  | .h => s.setH v
  | .l => s.setL v
  | .mHL => s.busWrite s.hl v
  | .a => s.setA v

/-- The value of `r16[p]`. -/
def State.r16 (s : State) : R16 → Word
  | .bc => s.bc
  | .de => s.de
  | .hl => s.hl
  | .sp => s.sp

/-- A write to `r16[p]`. -/
def State.setR16 (s : State) (p : R16) (v : Word) : State :=
  match p with
  | .bc => s.setBc v
  | .de => s.setDe v
  | .hl => s.setHl v
  | .sp => s.setSp v

/-- The value of `r16stk[p]`. -/
def State.r16stk (s : State) : R16Stk → Word
  | .bc => s.bc
  | .de => s.de
  | .hl => s.hl
  | .af => s.af

/-- A write to `r16stk[p]`; AF drops F's low nibble (41 R235). -/
def State.setR16stk (s : State) (p : R16Stk) (v : Word) : State :=
  match p with
  | .bc => s.setBc v
  | .de => s.setDe v
  | .hl => s.setHl v
  | .af => s.setAf v

/-! ### Flags as bits of F (10 R23) -/

def State.flagZ (s : State) : Bool := s.f.getLsbD 7
def State.flagN (s : State) : Bool := s.f.getLsbD 6
def State.flagH (s : State) : Bool := s.f.getLsbD 5
def State.flagC (s : State) : Bool := s.f.getLsbD 4

/-- `cc[c]` holds (45 R310). -/
def State.holds (s : State) : Cond → Bool
  | .nz => !s.flagZ
  | .z => s.flagZ
  | .nc => !s.flagC
  | .c => s.flagC

/-- The address `0xFF00 + a` of the LDH and (C) forms (30 R142, 40 R214-R217). -/
def highPage (a : Byte) : Word := joinBytes 0xFF a

/-- A relative jump's target from the PC after the instruction (45 R314). -/
def relTarget (pc : Word) (e : Byte) : Word := pc + sext16 e

end Sys2Proof.Machine
end

