-- ==== Sys2Proof/Machine/Flags.lean ====
section
/-! DEFINITION. Every flag computation of the spec: the 8-bit ALU (42_alu8.md), the 16-bit additions (43_alu16.md), the
rotates and shifts (44_rotate_shift_bit.md). Operands are taken as numbers, computed on exactly, and narrowed at the end. -/

namespace Sys2Proof.Machine

/-- F from its four flags; bits 3:0 are 0 (10 R22, R23). -/
def packFlags (z n h c : Bool) : Byte :=
  BitVec.ofBool z ++ BitVec.ofBool n ++ BitVec.ofBool h ++ BitVec.ofBool c ++ (0 : BitVec 4)

/-- Write all four flags. -/
def State.setFlags (s : State) (z n h c : Bool) : State := s.setF (packFlags z n h c)

/-- A byte result with the four flags that go with it. -/
structure FlagResult where
  val : Byte
  z : Bool
  n : Bool
  h : Bool
  c : Bool
  deriving DecidableEq, Repr

/-- `alu[y]` (30 R143). -/
inductive AluOp where
  | add | adc | sub | sbc | and | xor | or | cp
  deriving DecidableEq, Repr

/-- The index of an operation in `alu` (30 R143). -/
def AluOp.index : AluOp → Nat
  | .add => 0 | .adc => 1 | .sub => 2 | .sbc => 3 | .and => 4 | .xor => 5 | .or => 6 | .cp => 7

/-- `a + b + c` with its flags (42 R251, R252). -/
def addFlags (a b : Byte) (c : Bool) : FlagResult :=
  let r := a.toNat + b.toNat + c.toNat
  { val := BitVec.ofNat 8 r
    z := BitVec.ofNat 8 r == 0
    n := false
    h := decide (lowNibble a + lowNibble b + c.toNat > 0xF)
    c := decide (r > 0xFF) }

/-- `a - b - c` with its flags (42 R253, R254, R258). -/
def subFlags (a b : Byte) (c : Bool) : FlagResult :=
  let r := a - b - BitVec.ofNat 8 c.toNat
  { val := r
    z := r == 0
    n := true
    h := decide (lowNibble a < lowNibble b + c.toNat)
    c := decide (a.toNat < b.toNat + c.toNat) }

/-- A logical result with its flags: N and C are 0, H is 1 only for AND (42 R255-R257). -/
def logicFlags (r : Byte) (h : Bool) : FlagResult := { val := r, z := r == 0, n := false, h := h, c := false }

/-- `alu[y] A,b`: the value and the flags, `c` being the C flag before (42 R251-R258). -/
def AluOp.compute (op : AluOp) (a b : Byte) (c : Bool) : FlagResult :=
  match op with
  | .add => addFlags a b false
  | .adc => addFlags a b c
  | .sub => subFlags a b false
  | .sbc => subFlags a b c
  | .and => logicFlags (a &&& b) true
  | .xor => logicFlags (a ^^^ b) false
  | .or => logicFlags (a ||| b) false
  | .cp => subFlags a b false

/-- The operation writes its value to A: every one but CP (42 R258). -/
def AluOp.writesA : AluOp → Bool
  | .cp => false
  | .add | .adc | .sub | .sbc | .and | .xor | .or => true

/-- INC of a byte; `c` is the C flag, which INC keeps (42 R259, R260). -/
def incFlags (v : Byte) (c : Bool) : FlagResult :=
  { val := v + 1, z := v + 1 == 0, n := false, h := lowNibble v == 0xF, c := c }

/-- DEC of a byte; `c` is the C flag, which DEC keeps (42 R261, R262). -/
def decFlags (v : Byte) (c : Bool) : FlagResult :=
  { val := v - 1, z := v - 1 == 0, n := true, h := lowNibble v == 0x0, c := c }

/-- DAA from A and the flags N, H, C; both tests of the N = 0 branch read the original A (42 R263). -/
def daaFlags (a : Byte) (n h c : Bool) : FlagResult :=
  let low : Byte := if h || (!n && decide (lowNibble a > 9)) then 0x06 else 0x00
  let high := c || (!n && decide (a.toNat > 0x99))
  let corr := low ||| (if high then 0x60 else 0x00)
  let r := if n then a - corr else a + corr
  { val := r, z := r == 0, n := n, h := false, c := high }

/-- `rot[y]` (30 R143). -/
inductive RotOp where
  | rlc | rrc | rl | rr | sla | sra | swap | srl
  deriving DecidableEq, Repr

/-- The index of an operation in `rot` (30 R143). -/
def RotOp.index : RotOp → Nat
  | .rlc => 0 | .rrc => 1 | .rl => 2 | .rr => 3 | .sla => 4 | .sra => 5 | .swap => 6 | .srl => 7

/-- A rotate's or shift's result: Z from the value, N and H 0, C the bit shifted out. -/
def rotFlags (r : Byte) (c : Bool) : FlagResult := { val := r, z := r == 0, n := false, h := false, c := c }

/-- `rot[y]` of a byte, `c` being the C flag before (44 R295-R302). -/
def RotOp.compute (op : RotOp) (v : Byte) (c : Bool) : FlagResult :=
  let bit7 := v.getLsbD 7
  let bit0 := v.getLsbD 0
  match op with
  | .rlc => rotFlags ((v <<< 1) ||| BitVec.ofNat 8 bit7.toNat) bit7
  | .rrc => rotFlags ((v >>> 1) ||| BitVec.ofNat 8 (bit0.toNat * 128)) bit0
  | .rl => rotFlags ((v <<< 1) ||| BitVec.ofNat 8 c.toNat) bit7
  | .rr => rotFlags ((v >>> 1) ||| BitVec.ofNat 8 (c.toNat * 128)) bit0
  | .sla => rotFlags (v <<< 1) bit7
  | .sra => rotFlags ((v >>> 1) ||| (v &&& 0x80)) bit0
  | .swap => rotFlags (((v &&& 0x0F) <<< 4) ||| (v >>> 4)) false
  | .srl => rotFlags (v >>> 1) bit0

/-- H and C of ADD SP,e8 and LD HL,SP+e8: from the unsigned sum of SP's low byte and the immediate byte (41 R236, 43 R283). -/
def State.setSpFlags (s : State) (sp : Word) (u : Byte) : State :=
  s.setFlags false false (decide (sp.toNat % 16 + lowNibble u > 0xF)) (decide (sp.toNat % 256 + u.toNat > 0xFF))

/-- N, H and C of ADD HL,rr; Z is kept (43 R280). -/
def State.setAddHlFlags (s : State) (a b : Word) : State :=
  s.setFlags s.flagZ false (decide (a.toNat % 0x1000 + b.toNat % 0x1000 > 0xFFF)) (decide (a.toNat + b.toNat > 0xFFFF))

end Sys2Proof.Machine
end

