-- ==== Sys2Proof/Machine/Alu16.lean ====
section
/-! DEFINITION. The meanings of the 16-bit arithmetic (43_alu16.md R280-R283). Every meaning charges its own cost in clock ticks (70 R462). -/

namespace Sys2Proof.Machine

/-- `ADD HL,r16[p]`; Z is kept (R280). -/
def addHl (p : R16) (cost : Nat) (s : State) : Result :=
  .next (((s.setHl (s.hl + s.r16 p)).setAddHlFlags s.hl (s.r16 p)).tick cost)

/-- `INC r16[p]`; no flag (R281). -/
def incR16 (p : R16) (cost : Nat) (s : State) : Result := .next ((s.setR16 p (s.r16 p + 1)).tick cost)

/-- `DEC r16[p]`; no flag (R282). -/
def decR16 (p : R16) (cost : Nat) (s : State) : Result := .next ((s.setR16 p (s.r16 p - 1)).tick cost)

/-- `ADD SP,e8` with H and C from the low byte of the old SP (R283). -/
def addSp (e : Byte) (cost : Nat) (s : State) : Result :=
  .next (((s.setSp (s.sp + sext16 e)).setSpFlags s.sp e).tick cost)

/-- `INC BC` (03; R281). -/
def execInc_BC (s : State) : Result := incR16 .bc 8 s

/-- `ADD HL,BC` (09; R280). -/
def execAdd_HL_BC (s : State) : Result := addHl .bc 8 s

/-- `DEC BC` (0B; R282). -/
def execDec_BC (s : State) : Result := decR16 .bc 8 s

/-- `INC DE` (13; R281). -/
def execInc_DE (s : State) : Result := incR16 .de 8 s

/-- `ADD HL,DE` (19; R280). -/
def execAdd_HL_DE (s : State) : Result := addHl .de 8 s

/-- `DEC DE` (1B; R282). -/
def execDec_DE (s : State) : Result := decR16 .de 8 s

/-- `INC HL` (23; R281). -/
def execInc_HL (s : State) : Result := incR16 .hl 8 s

/-- `ADD HL,HL` (29; R280). -/
def execAdd_HL_HL (s : State) : Result := addHl .hl 8 s

/-- `DEC HL` (2B; R282). -/
def execDec_HL (s : State) : Result := decR16 .hl 8 s

/-- `INC SP` (33; R281). -/
def execInc_SP (s : State) : Result := incR16 .sp 8 s

/-- `ADD HL,SP` (39; R280). -/
def execAdd_HL_SP (s : State) : Result := addHl .sp 8 s

/-- `DEC SP` (3B; R282). -/
def execDec_SP (s : State) : Result := decR16 .sp 8 s

/-- `ADD SP,e8` (E8; R283). -/
def execAdd_SP_e8 (e : Byte) (s : State) : Result := addSp e 16 s

end Sys2Proof.Machine
end

