-- ==== Sys2Proof/Machine/Alu8.lean ====
section
/-! DEFINITION. The meanings of the 8-bit arithmetic and logic (42_alu8.md R250-R266). Every meaning charges its own cost in clock ticks (70 R462). -/

namespace Sys2Proof.Machine

/-- Write the flags of a result. -/
def State.putFlags (s : State) (r : FlagResult) : State := s.setFlags r.z r.n r.h r.c

/-- `alu[y] A,b` on the state (R250-R258): the flags, and A unless the operation is CP. -/
def State.aluStep (s : State) (op : AluOp) (b : Byte) : State :=
  let r := op.compute s.a b s.flagC
  if op.writesA then (s.setA r.val).putFlags r else s.putFlags r

/-- `alu[y] A,r8[z]`; for (HL) exactly one memory read (R250). -/
def aluReg (op : AluOp) (src : R8) (cost : Nat) (s : State) : Result := .next ((s.aluStep op (s.r8 src)).tick cost)

/-- `alu[y] A,n8` (R250). -/
def aluImm (op : AluOp) (n : Byte) (cost : Nat) (s : State) : Result := .next ((s.aluStep op n).tick cost)

/-- `INC r8[y]`: one read, one write; C is kept (R259, R260). -/
def incR8 (r : R8) (cost : Nat) (s : State) : Result :=
  let out := incFlags (s.r8 r) s.flagC
  .next (((s.setR8 r out.val).putFlags out).tick cost)

/-- `DEC r8[y]`: one read, one write; C is kept (R261, R262). -/
def decR8 (r : R8) (cost : Nat) (s : State) : Result :=
  let out := decFlags (s.r8 r) s.flagC
  .next (((s.setR8 r out.val).putFlags out).tick cost)

/-- `DAA` (R263). -/
def daaOp (cost : Nat) (s : State) : Result :=
  let out := daaFlags s.a s.flagN s.flagH s.flagC
  .next (((s.setA out.val).putFlags out).tick cost)

/-- `CPL`: Z and C are kept (R264). -/
def cplOp (cost : Nat) (s : State) : Result :=
  .next (((s.setA (~~~s.a)).setFlags s.flagZ true true s.flagC).tick cost)

/-- `SCF`: Z is kept (R265). -/
def scfOp (cost : Nat) (s : State) : Result := .next ((s.setFlags s.flagZ false false true).tick cost)

/-- `CCF`: Z is kept (R266). -/
def ccfOp (cost : Nat) (s : State) : Result := .next ((s.setFlags s.flagZ false false (!s.flagC)).tick cost)

/-- `INC B` (04; R259). -/
def execInc_B (s : State) : Result := incR8 .b 4 s

/-- `DEC B` (05; R261). -/
def execDec_B (s : State) : Result := decR8 .b 4 s

/-- `INC C` (0C; R259). -/
def execInc_C (s : State) : Result := incR8 .c 4 s

/-- `DEC C` (0D; R261). -/
def execDec_C (s : State) : Result := decR8 .c 4 s

/-- `INC D` (14; R259). -/
def execInc_D (s : State) : Result := incR8 .d 4 s

/-- `DEC D` (15; R261). -/
def execDec_D (s : State) : Result := decR8 .d 4 s

/-- `INC E` (1C; R259). -/
def execInc_E (s : State) : Result := incR8 .e 4 s

/-- `DEC E` (1D; R261). -/
def execDec_E (s : State) : Result := decR8 .e 4 s

/-- `INC H` (24; R259). -/
def execInc_H (s : State) : Result := incR8 .h 4 s

/-- `DEC H` (25; R261). -/
def execDec_H (s : State) : Result := decR8 .h 4 s

/-- `DAA` (27; R263). -/
def execDaa (s : State) : Result := daaOp 4 s

/-- `INC L` (2C; R259). -/
def execInc_L (s : State) : Result := incR8 .l 4 s

/-- `DEC L` (2D; R261). -/
def execDec_L (s : State) : Result := decR8 .l 4 s

/-- `CPL` (2F; R264). -/
def execCpl (s : State) : Result := cplOp 4 s

/-- `INC (HL)` (34; R260). -/
def execInc_MemHL (s : State) : Result := incR8 .mHL 12 s

/-- `DEC (HL)` (35; R262). -/
def execDec_MemHL (s : State) : Result := decR8 .mHL 12 s

/-- `SCF` (37; R265). -/
def execScf (s : State) : Result := scfOp 4 s

/-- `INC A` (3C; R259). -/
def execInc_A (s : State) : Result := incR8 .a 4 s

/-- `DEC A` (3D; R261). -/
def execDec_A (s : State) : Result := decR8 .a 4 s

/-- `CCF` (3F; R266). -/
def execCcf (s : State) : Result := ccfOp 4 s

/-- `ADD A,B` (80; R251). -/
def execAdd_A_B (s : State) : Result := aluReg .add .b 4 s

/-- `ADD A,C` (81; R251). -/
def execAdd_A_C (s : State) : Result := aluReg .add .c 4 s

/-- `ADD A,D` (82; R251). -/
def execAdd_A_D (s : State) : Result := aluReg .add .d 4 s

/-- `ADD A,E` (83; R251). -/
def execAdd_A_E (s : State) : Result := aluReg .add .e 4 s

/-- `ADD A,H` (84; R251). -/
def execAdd_A_H (s : State) : Result := aluReg .add .h 4 s

/-- `ADD A,L` (85; R251). -/
def execAdd_A_L (s : State) : Result := aluReg .add .l 4 s

/-- `ADD A,(HL)` (86; R251). -/
def execAdd_A_MemHL (s : State) : Result := aluReg .add .mHL 8 s

/-- `ADD A,A` (87; R251). -/
def execAdd_A_A (s : State) : Result := aluReg .add .a 4 s

/-- `ADC A,B` (88; R252). -/
def execAdc_A_B (s : State) : Result := aluReg .adc .b 4 s

/-- `ADC A,C` (89; R252). -/
def execAdc_A_C (s : State) : Result := aluReg .adc .c 4 s

/-- `ADC A,D` (8A; R252). -/
def execAdc_A_D (s : State) : Result := aluReg .adc .d 4 s

/-- `ADC A,E` (8B; R252). -/
def execAdc_A_E (s : State) : Result := aluReg .adc .e 4 s

/-- `ADC A,H` (8C; R252). -/
def execAdc_A_H (s : State) : Result := aluReg .adc .h 4 s

/-- `ADC A,L` (8D; R252). -/
def execAdc_A_L (s : State) : Result := aluReg .adc .l 4 s

/-- `ADC A,(HL)` (8E; R252). -/
def execAdc_A_MemHL (s : State) : Result := aluReg .adc .mHL 8 s

/-- `ADC A,A` (8F; R252). -/
def execAdc_A_A (s : State) : Result := aluReg .adc .a 4 s

/-- `SUB A,B` (90; R253). -/
def execSub_A_B (s : State) : Result := aluReg .sub .b 4 s

/-- `SUB A,C` (91; R253). -/
def execSub_A_C (s : State) : Result := aluReg .sub .c 4 s

/-- `SUB A,D` (92; R253). -/
def execSub_A_D (s : State) : Result := aluReg .sub .d 4 s

/-- `SUB A,E` (93; R253). -/
def execSub_A_E (s : State) : Result := aluReg .sub .e 4 s

/-- `SUB A,H` (94; R253). -/
def execSub_A_H (s : State) : Result := aluReg .sub .h 4 s

/-- `SUB A,L` (95; R253). -/
def execSub_A_L (s : State) : Result := aluReg .sub .l 4 s

/-- `SUB A,(HL)` (96; R253). -/
def execSub_A_MemHL (s : State) : Result := aluReg .sub .mHL 8 s

/-- `SUB A,A` (97; R253). -/
def execSub_A_A (s : State) : Result := aluReg .sub .a 4 s

/-- `SBC A,B` (98; R254). -/
def execSbc_A_B (s : State) : Result := aluReg .sbc .b 4 s

/-- `SBC A,C` (99; R254). -/
def execSbc_A_C (s : State) : Result := aluReg .sbc .c 4 s

/-- `SBC A,D` (9A; R254). -/
def execSbc_A_D (s : State) : Result := aluReg .sbc .d 4 s

/-- `SBC A,E` (9B; R254). -/
def execSbc_A_E (s : State) : Result := aluReg .sbc .e 4 s

/-- `SBC A,H` (9C; R254). -/
def execSbc_A_H (s : State) : Result := aluReg .sbc .h 4 s

/-- `SBC A,L` (9D; R254). -/
def execSbc_A_L (s : State) : Result := aluReg .sbc .l 4 s

/-- `SBC A,(HL)` (9E; R254). -/
def execSbc_A_MemHL (s : State) : Result := aluReg .sbc .mHL 8 s

/-- `SBC A,A` (9F; R254). -/
def execSbc_A_A (s : State) : Result := aluReg .sbc .a 4 s

/-- `AND A,B` (A0; R255). -/
def execAnd_A_B (s : State) : Result := aluReg .and .b 4 s

/-- `AND A,C` (A1; R255). -/
def execAnd_A_C (s : State) : Result := aluReg .and .c 4 s

/-- `AND A,D` (A2; R255). -/
def execAnd_A_D (s : State) : Result := aluReg .and .d 4 s

/-- `AND A,E` (A3; R255). -/
def execAnd_A_E (s : State) : Result := aluReg .and .e 4 s

/-- `AND A,H` (A4; R255). -/
def execAnd_A_H (s : State) : Result := aluReg .and .h 4 s

/-- `AND A,L` (A5; R255). -/
def execAnd_A_L (s : State) : Result := aluReg .and .l 4 s

/-- `AND A,(HL)` (A6; R255). -/
def execAnd_A_MemHL (s : State) : Result := aluReg .and .mHL 8 s

/-- `AND A,A` (A7; R255). -/
def execAnd_A_A (s : State) : Result := aluReg .and .a 4 s

/-- `XOR A,B` (A8; R256). -/
def execXor_A_B (s : State) : Result := aluReg .xor .b 4 s

/-- `XOR A,C` (A9; R256). -/
def execXor_A_C (s : State) : Result := aluReg .xor .c 4 s

/-- `XOR A,D` (AA; R256). -/
def execXor_A_D (s : State) : Result := aluReg .xor .d 4 s

/-- `XOR A,E` (AB; R256). -/
def execXor_A_E (s : State) : Result := aluReg .xor .e 4 s

/-- `XOR A,H` (AC; R256). -/
def execXor_A_H (s : State) : Result := aluReg .xor .h 4 s

/-- `XOR A,L` (AD; R256). -/
def execXor_A_L (s : State) : Result := aluReg .xor .l 4 s

/-- `XOR A,(HL)` (AE; R256). -/
def execXor_A_MemHL (s : State) : Result := aluReg .xor .mHL 8 s

/-- `XOR A,A` (AF; R256). -/
def execXor_A_A (s : State) : Result := aluReg .xor .a 4 s

/-- `OR A,B` (B0; R257). -/
def execOr_A_B (s : State) : Result := aluReg .or .b 4 s

/-- `OR A,C` (B1; R257). -/
def execOr_A_C (s : State) : Result := aluReg .or .c 4 s

/-- `OR A,D` (B2; R257). -/
def execOr_A_D (s : State) : Result := aluReg .or .d 4 s

/-- `OR A,E` (B3; R257). -/
def execOr_A_E (s : State) : Result := aluReg .or .e 4 s

/-- `OR A,H` (B4; R257). -/
def execOr_A_H (s : State) : Result := aluReg .or .h 4 s

/-- `OR A,L` (B5; R257). -/
def execOr_A_L (s : State) : Result := aluReg .or .l 4 s

/-- `OR A,(HL)` (B6; R257). -/
def execOr_A_MemHL (s : State) : Result := aluReg .or .mHL 8 s

/-- `OR A,A` (B7; R257). -/
def execOr_A_A (s : State) : Result := aluReg .or .a 4 s

/-- `CP A,B` (B8; R258). -/
def execCp_A_B (s : State) : Result := aluReg .cp .b 4 s

/-- `CP A,C` (B9; R258). -/
def execCp_A_C (s : State) : Result := aluReg .cp .c 4 s

/-- `CP A,D` (BA; R258). -/
def execCp_A_D (s : State) : Result := aluReg .cp .d 4 s

/-- `CP A,E` (BB; R258). -/
def execCp_A_E (s : State) : Result := aluReg .cp .e 4 s

/-- `CP A,H` (BC; R258). -/
def execCp_A_H (s : State) : Result := aluReg .cp .h 4 s

/-- `CP A,L` (BD; R258). -/
def execCp_A_L (s : State) : Result := aluReg .cp .l 4 s

/-- `CP A,(HL)` (BE; R258). -/
def execCp_A_MemHL (s : State) : Result := aluReg .cp .mHL 8 s

/-- `CP A,A` (BF; R258). -/
def execCp_A_A (s : State) : Result := aluReg .cp .a 4 s

/-- `ADD A,n8` (C6; R251). -/
def execAdd_A_n8 (n : Byte) (s : State) : Result := aluImm .add n 8 s

/-- `ADC A,n8` (CE; R252). -/
def execAdc_A_n8 (n : Byte) (s : State) : Result := aluImm .adc n 8 s

/-- `SUB A,n8` (D6; R253). -/
def execSub_A_n8 (n : Byte) (s : State) : Result := aluImm .sub n 8 s

/-- `SBC A,n8` (DE; R254). -/
def execSbc_A_n8 (n : Byte) (s : State) : Result := aluImm .sbc n 8 s

/-- `AND A,n8` (E6; R255). -/
def execAnd_A_n8 (n : Byte) (s : State) : Result := aluImm .and n 8 s

/-- `XOR A,n8` (EE; R256). -/
def execXor_A_n8 (n : Byte) (s : State) : Result := aluImm .xor n 8 s

/-- `OR A,n8` (F6; R257). -/
def execOr_A_n8 (n : Byte) (s : State) : Result := aluImm .or n 8 s

/-- `CP A,n8` (FE; R258). -/
def execCp_A_n8 (n : Byte) (s : State) : Result := aluImm .cp n 8 s

end Sys2Proof.Machine
end

