-- ==== Sys2Proof/Machine/BitOps.lean ====
section
/-! DEFINITION. The meanings of the BIT, RES and SET (44_rotate_shift_bit.md R303-R305). Every meaning charges its own cost in clock ticks (70 R462). -/

namespace Sys2Proof.Machine

/-- `BIT k,r8[z]`: Z is the complement of the bit; C is kept; one read, no write (R303). -/
def bitTest (k : Nat) (r : R8) (cost : Nat) (s : State) : Result :=
  .next ((s.setFlags (!(s.r8 r).getLsbD k) false true s.flagC).tick cost)

/-- `RES k,r8[z]`: one read, one write, no flag (R304). -/
def bitReset (k : Nat) (r : R8) (cost : Nat) (s : State) : Result :=
  .next ((s.setR8 r (s.r8 r &&& ~~~((1 : Byte) <<< k))).tick cost)

/-- `SET k,r8[z]`: one read, one write, no flag (R305). -/
def bitSet (k : Nat) (r : R8) (cost : Nat) (s : State) : Result :=
  .next ((s.setR8 r (s.r8 r ||| ((1 : Byte) <<< k))).tick cost)

/-- `BIT 0,B` (CB 40; R303). -/
def execBit_0_B (s : State) : Result := bitTest 0 .b 8 s

/-- `BIT 0,C` (CB 41; R303). -/
def execBit_0_C (s : State) : Result := bitTest 0 .c 8 s

/-- `BIT 0,D` (CB 42; R303). -/
def execBit_0_D (s : State) : Result := bitTest 0 .d 8 s

/-- `BIT 0,E` (CB 43; R303). -/
def execBit_0_E (s : State) : Result := bitTest 0 .e 8 s

/-- `BIT 0,H` (CB 44; R303). -/
def execBit_0_H (s : State) : Result := bitTest 0 .h 8 s

/-- `BIT 0,L` (CB 45; R303). -/
def execBit_0_L (s : State) : Result := bitTest 0 .l 8 s

/-- `BIT 0,(HL)` (CB 46; R303). -/
def execBit_0_MemHL (s : State) : Result := bitTest 0 .mHL 12 s

/-- `BIT 0,A` (CB 47; R303). -/
def execBit_0_A (s : State) : Result := bitTest 0 .a 8 s

/-- `BIT 1,B` (CB 48; R303). -/
def execBit_1_B (s : State) : Result := bitTest 1 .b 8 s

/-- `BIT 1,C` (CB 49; R303). -/
def execBit_1_C (s : State) : Result := bitTest 1 .c 8 s

/-- `BIT 1,D` (CB 4A; R303). -/
def execBit_1_D (s : State) : Result := bitTest 1 .d 8 s

/-- `BIT 1,E` (CB 4B; R303). -/
def execBit_1_E (s : State) : Result := bitTest 1 .e 8 s

/-- `BIT 1,H` (CB 4C; R303). -/
def execBit_1_H (s : State) : Result := bitTest 1 .h 8 s

/-- `BIT 1,L` (CB 4D; R303). -/
def execBit_1_L (s : State) : Result := bitTest 1 .l 8 s

/-- `BIT 1,(HL)` (CB 4E; R303). -/
def execBit_1_MemHL (s : State) : Result := bitTest 1 .mHL 12 s

/-- `BIT 1,A` (CB 4F; R303). -/
def execBit_1_A (s : State) : Result := bitTest 1 .a 8 s

/-- `BIT 2,B` (CB 50; R303). -/
def execBit_2_B (s : State) : Result := bitTest 2 .b 8 s

/-- `BIT 2,C` (CB 51; R303). -/
def execBit_2_C (s : State) : Result := bitTest 2 .c 8 s

/-- `BIT 2,D` (CB 52; R303). -/
def execBit_2_D (s : State) : Result := bitTest 2 .d 8 s

/-- `BIT 2,E` (CB 53; R303). -/
def execBit_2_E (s : State) : Result := bitTest 2 .e 8 s

/-- `BIT 2,H` (CB 54; R303). -/
def execBit_2_H (s : State) : Result := bitTest 2 .h 8 s

/-- `BIT 2,L` (CB 55; R303). -/
def execBit_2_L (s : State) : Result := bitTest 2 .l 8 s

/-- `BIT 2,(HL)` (CB 56; R303). -/
def execBit_2_MemHL (s : State) : Result := bitTest 2 .mHL 12 s

/-- `BIT 2,A` (CB 57; R303). -/
def execBit_2_A (s : State) : Result := bitTest 2 .a 8 s

/-- `BIT 3,B` (CB 58; R303). -/
def execBit_3_B (s : State) : Result := bitTest 3 .b 8 s

/-- `BIT 3,C` (CB 59; R303). -/
def execBit_3_C (s : State) : Result := bitTest 3 .c 8 s

/-- `BIT 3,D` (CB 5A; R303). -/
def execBit_3_D (s : State) : Result := bitTest 3 .d 8 s

/-- `BIT 3,E` (CB 5B; R303). -/
def execBit_3_E (s : State) : Result := bitTest 3 .e 8 s

/-- `BIT 3,H` (CB 5C; R303). -/
def execBit_3_H (s : State) : Result := bitTest 3 .h 8 s

/-- `BIT 3,L` (CB 5D; R303). -/
def execBit_3_L (s : State) : Result := bitTest 3 .l 8 s

/-- `BIT 3,(HL)` (CB 5E; R303). -/
def execBit_3_MemHL (s : State) : Result := bitTest 3 .mHL 12 s

/-- `BIT 3,A` (CB 5F; R303). -/
def execBit_3_A (s : State) : Result := bitTest 3 .a 8 s

/-- `BIT 4,B` (CB 60; R303). -/
def execBit_4_B (s : State) : Result := bitTest 4 .b 8 s

/-- `BIT 4,C` (CB 61; R303). -/
def execBit_4_C (s : State) : Result := bitTest 4 .c 8 s

/-- `BIT 4,D` (CB 62; R303). -/
def execBit_4_D (s : State) : Result := bitTest 4 .d 8 s

/-- `BIT 4,E` (CB 63; R303). -/
def execBit_4_E (s : State) : Result := bitTest 4 .e 8 s

/-- `BIT 4,H` (CB 64; R303). -/
def execBit_4_H (s : State) : Result := bitTest 4 .h 8 s

/-- `BIT 4,L` (CB 65; R303). -/
def execBit_4_L (s : State) : Result := bitTest 4 .l 8 s

/-- `BIT 4,(HL)` (CB 66; R303). -/
def execBit_4_MemHL (s : State) : Result := bitTest 4 .mHL 12 s

/-- `BIT 4,A` (CB 67; R303). -/
def execBit_4_A (s : State) : Result := bitTest 4 .a 8 s

/-- `BIT 5,B` (CB 68; R303). -/
def execBit_5_B (s : State) : Result := bitTest 5 .b 8 s

/-- `BIT 5,C` (CB 69; R303). -/
def execBit_5_C (s : State) : Result := bitTest 5 .c 8 s

/-- `BIT 5,D` (CB 6A; R303). -/
def execBit_5_D (s : State) : Result := bitTest 5 .d 8 s

/-- `BIT 5,E` (CB 6B; R303). -/
def execBit_5_E (s : State) : Result := bitTest 5 .e 8 s

/-- `BIT 5,H` (CB 6C; R303). -/
def execBit_5_H (s : State) : Result := bitTest 5 .h 8 s

/-- `BIT 5,L` (CB 6D; R303). -/
def execBit_5_L (s : State) : Result := bitTest 5 .l 8 s

/-- `BIT 5,(HL)` (CB 6E; R303). -/
def execBit_5_MemHL (s : State) : Result := bitTest 5 .mHL 12 s

/-- `BIT 5,A` (CB 6F; R303). -/
def execBit_5_A (s : State) : Result := bitTest 5 .a 8 s

/-- `BIT 6,B` (CB 70; R303). -/
def execBit_6_B (s : State) : Result := bitTest 6 .b 8 s

/-- `BIT 6,C` (CB 71; R303). -/
def execBit_6_C (s : State) : Result := bitTest 6 .c 8 s

/-- `BIT 6,D` (CB 72; R303). -/
def execBit_6_D (s : State) : Result := bitTest 6 .d 8 s

/-- `BIT 6,E` (CB 73; R303). -/
def execBit_6_E (s : State) : Result := bitTest 6 .e 8 s

/-- `BIT 6,H` (CB 74; R303). -/
def execBit_6_H (s : State) : Result := bitTest 6 .h 8 s

/-- `BIT 6,L` (CB 75; R303). -/
def execBit_6_L (s : State) : Result := bitTest 6 .l 8 s

/-- `BIT 6,(HL)` (CB 76; R303). -/
def execBit_6_MemHL (s : State) : Result := bitTest 6 .mHL 12 s

/-- `BIT 6,A` (CB 77; R303). -/
def execBit_6_A (s : State) : Result := bitTest 6 .a 8 s

/-- `BIT 7,B` (CB 78; R303). -/
def execBit_7_B (s : State) : Result := bitTest 7 .b 8 s

/-- `BIT 7,C` (CB 79; R303). -/
def execBit_7_C (s : State) : Result := bitTest 7 .c 8 s

/-- `BIT 7,D` (CB 7A; R303). -/
def execBit_7_D (s : State) : Result := bitTest 7 .d 8 s

/-- `BIT 7,E` (CB 7B; R303). -/
def execBit_7_E (s : State) : Result := bitTest 7 .e 8 s

/-- `BIT 7,H` (CB 7C; R303). -/
def execBit_7_H (s : State) : Result := bitTest 7 .h 8 s

/-- `BIT 7,L` (CB 7D; R303). -/
def execBit_7_L (s : State) : Result := bitTest 7 .l 8 s

/-- `BIT 7,(HL)` (CB 7E; R303). -/
def execBit_7_MemHL (s : State) : Result := bitTest 7 .mHL 12 s

/-- `BIT 7,A` (CB 7F; R303). -/
def execBit_7_A (s : State) : Result := bitTest 7 .a 8 s

/-- `RES 0,B` (CB 80; R304). -/
def execRes_0_B (s : State) : Result := bitReset 0 .b 8 s

/-- `RES 0,C` (CB 81; R304). -/
def execRes_0_C (s : State) : Result := bitReset 0 .c 8 s

/-- `RES 0,D` (CB 82; R304). -/
def execRes_0_D (s : State) : Result := bitReset 0 .d 8 s

/-- `RES 0,E` (CB 83; R304). -/
def execRes_0_E (s : State) : Result := bitReset 0 .e 8 s

/-- `RES 0,H` (CB 84; R304). -/
def execRes_0_H (s : State) : Result := bitReset 0 .h 8 s

/-- `RES 0,L` (CB 85; R304). -/
def execRes_0_L (s : State) : Result := bitReset 0 .l 8 s

/-- `RES 0,(HL)` (CB 86; R304). -/
def execRes_0_MemHL (s : State) : Result := bitReset 0 .mHL 16 s

/-- `RES 0,A` (CB 87; R304). -/
def execRes_0_A (s : State) : Result := bitReset 0 .a 8 s

/-- `RES 1,B` (CB 88; R304). -/
def execRes_1_B (s : State) : Result := bitReset 1 .b 8 s

/-- `RES 1,C` (CB 89; R304). -/
def execRes_1_C (s : State) : Result := bitReset 1 .c 8 s

/-- `RES 1,D` (CB 8A; R304). -/
def execRes_1_D (s : State) : Result := bitReset 1 .d 8 s

/-- `RES 1,E` (CB 8B; R304). -/
def execRes_1_E (s : State) : Result := bitReset 1 .e 8 s

/-- `RES 1,H` (CB 8C; R304). -/
def execRes_1_H (s : State) : Result := bitReset 1 .h 8 s

/-- `RES 1,L` (CB 8D; R304). -/
def execRes_1_L (s : State) : Result := bitReset 1 .l 8 s

/-- `RES 1,(HL)` (CB 8E; R304). -/
def execRes_1_MemHL (s : State) : Result := bitReset 1 .mHL 16 s

/-- `RES 1,A` (CB 8F; R304). -/
def execRes_1_A (s : State) : Result := bitReset 1 .a 8 s

/-- `RES 2,B` (CB 90; R304). -/
def execRes_2_B (s : State) : Result := bitReset 2 .b 8 s

/-- `RES 2,C` (CB 91; R304). -/
def execRes_2_C (s : State) : Result := bitReset 2 .c 8 s

/-- `RES 2,D` (CB 92; R304). -/
def execRes_2_D (s : State) : Result := bitReset 2 .d 8 s

/-- `RES 2,E` (CB 93; R304). -/
def execRes_2_E (s : State) : Result := bitReset 2 .e 8 s

/-- `RES 2,H` (CB 94; R304). -/
def execRes_2_H (s : State) : Result := bitReset 2 .h 8 s

/-- `RES 2,L` (CB 95; R304). -/
def execRes_2_L (s : State) : Result := bitReset 2 .l 8 s

/-- `RES 2,(HL)` (CB 96; R304). -/
def execRes_2_MemHL (s : State) : Result := bitReset 2 .mHL 16 s

/-- `RES 2,A` (CB 97; R304). -/
def execRes_2_A (s : State) : Result := bitReset 2 .a 8 s

/-- `RES 3,B` (CB 98; R304). -/
def execRes_3_B (s : State) : Result := bitReset 3 .b 8 s

/-- `RES 3,C` (CB 99; R304). -/
def execRes_3_C (s : State) : Result := bitReset 3 .c 8 s

/-- `RES 3,D` (CB 9A; R304). -/
def execRes_3_D (s : State) : Result := bitReset 3 .d 8 s

/-- `RES 3,E` (CB 9B; R304). -/
def execRes_3_E (s : State) : Result := bitReset 3 .e 8 s

/-- `RES 3,H` (CB 9C; R304). -/
def execRes_3_H (s : State) : Result := bitReset 3 .h 8 s

/-- `RES 3,L` (CB 9D; R304). -/
def execRes_3_L (s : State) : Result := bitReset 3 .l 8 s

/-- `RES 3,(HL)` (CB 9E; R304). -/
def execRes_3_MemHL (s : State) : Result := bitReset 3 .mHL 16 s

/-- `RES 3,A` (CB 9F; R304). -/
def execRes_3_A (s : State) : Result := bitReset 3 .a 8 s

/-- `RES 4,B` (CB A0; R304). -/
def execRes_4_B (s : State) : Result := bitReset 4 .b 8 s

/-- `RES 4,C` (CB A1; R304). -/
def execRes_4_C (s : State) : Result := bitReset 4 .c 8 s

/-- `RES 4,D` (CB A2; R304). -/
def execRes_4_D (s : State) : Result := bitReset 4 .d 8 s

/-- `RES 4,E` (CB A3; R304). -/
def execRes_4_E (s : State) : Result := bitReset 4 .e 8 s

/-- `RES 4,H` (CB A4; R304). -/
def execRes_4_H (s : State) : Result := bitReset 4 .h 8 s

/-- `RES 4,L` (CB A5; R304). -/
def execRes_4_L (s : State) : Result := bitReset 4 .l 8 s

/-- `RES 4,(HL)` (CB A6; R304). -/
def execRes_4_MemHL (s : State) : Result := bitReset 4 .mHL 16 s

/-- `RES 4,A` (CB A7; R304). -/
def execRes_4_A (s : State) : Result := bitReset 4 .a 8 s

/-- `RES 5,B` (CB A8; R304). -/
def execRes_5_B (s : State) : Result := bitReset 5 .b 8 s

/-- `RES 5,C` (CB A9; R304). -/
def execRes_5_C (s : State) : Result := bitReset 5 .c 8 s

/-- `RES 5,D` (CB AA; R304). -/
def execRes_5_D (s : State) : Result := bitReset 5 .d 8 s

/-- `RES 5,E` (CB AB; R304). -/
def execRes_5_E (s : State) : Result := bitReset 5 .e 8 s

/-- `RES 5,H` (CB AC; R304). -/
def execRes_5_H (s : State) : Result := bitReset 5 .h 8 s

/-- `RES 5,L` (CB AD; R304). -/
def execRes_5_L (s : State) : Result := bitReset 5 .l 8 s

/-- `RES 5,(HL)` (CB AE; R304). -/
def execRes_5_MemHL (s : State) : Result := bitReset 5 .mHL 16 s

/-- `RES 5,A` (CB AF; R304). -/
def execRes_5_A (s : State) : Result := bitReset 5 .a 8 s

/-- `RES 6,B` (CB B0; R304). -/
def execRes_6_B (s : State) : Result := bitReset 6 .b 8 s

/-- `RES 6,C` (CB B1; R304). -/
def execRes_6_C (s : State) : Result := bitReset 6 .c 8 s

/-- `RES 6,D` (CB B2; R304). -/
def execRes_6_D (s : State) : Result := bitReset 6 .d 8 s

/-- `RES 6,E` (CB B3; R304). -/
def execRes_6_E (s : State) : Result := bitReset 6 .e 8 s

/-- `RES 6,H` (CB B4; R304). -/
def execRes_6_H (s : State) : Result := bitReset 6 .h 8 s

/-- `RES 6,L` (CB B5; R304). -/
def execRes_6_L (s : State) : Result := bitReset 6 .l 8 s

/-- `RES 6,(HL)` (CB B6; R304). -/
def execRes_6_MemHL (s : State) : Result := bitReset 6 .mHL 16 s

/-- `RES 6,A` (CB B7; R304). -/
def execRes_6_A (s : State) : Result := bitReset 6 .a 8 s

/-- `RES 7,B` (CB B8; R304). -/
def execRes_7_B (s : State) : Result := bitReset 7 .b 8 s

/-- `RES 7,C` (CB B9; R304). -/
def execRes_7_C (s : State) : Result := bitReset 7 .c 8 s

/-- `RES 7,D` (CB BA; R304). -/
def execRes_7_D (s : State) : Result := bitReset 7 .d 8 s

/-- `RES 7,E` (CB BB; R304). -/
def execRes_7_E (s : State) : Result := bitReset 7 .e 8 s

/-- `RES 7,H` (CB BC; R304). -/
def execRes_7_H (s : State) : Result := bitReset 7 .h 8 s

/-- `RES 7,L` (CB BD; R304). -/
def execRes_7_L (s : State) : Result := bitReset 7 .l 8 s

/-- `RES 7,(HL)` (CB BE; R304). -/
def execRes_7_MemHL (s : State) : Result := bitReset 7 .mHL 16 s

/-- `RES 7,A` (CB BF; R304). -/
def execRes_7_A (s : State) : Result := bitReset 7 .a 8 s

/-- `SET 0,B` (CB C0; R305). -/
def execSet_0_B (s : State) : Result := bitSet 0 .b 8 s

/-- `SET 0,C` (CB C1; R305). -/
def execSet_0_C (s : State) : Result := bitSet 0 .c 8 s

/-- `SET 0,D` (CB C2; R305). -/
def execSet_0_D (s : State) : Result := bitSet 0 .d 8 s

/-- `SET 0,E` (CB C3; R305). -/
def execSet_0_E (s : State) : Result := bitSet 0 .e 8 s

/-- `SET 0,H` (CB C4; R305). -/
def execSet_0_H (s : State) : Result := bitSet 0 .h 8 s

/-- `SET 0,L` (CB C5; R305). -/
def execSet_0_L (s : State) : Result := bitSet 0 .l 8 s

/-- `SET 0,(HL)` (CB C6; R305). -/
def execSet_0_MemHL (s : State) : Result := bitSet 0 .mHL 16 s

/-- `SET 0,A` (CB C7; R305). -/
def execSet_0_A (s : State) : Result := bitSet 0 .a 8 s

/-- `SET 1,B` (CB C8; R305). -/
def execSet_1_B (s : State) : Result := bitSet 1 .b 8 s

/-- `SET 1,C` (CB C9; R305). -/
def execSet_1_C (s : State) : Result := bitSet 1 .c 8 s

/-- `SET 1,D` (CB CA; R305). -/
def execSet_1_D (s : State) : Result := bitSet 1 .d 8 s

/-- `SET 1,E` (CB CB; R305). -/
def execSet_1_E (s : State) : Result := bitSet 1 .e 8 s

/-- `SET 1,H` (CB CC; R305). -/
def execSet_1_H (s : State) : Result := bitSet 1 .h 8 s

/-- `SET 1,L` (CB CD; R305). -/
def execSet_1_L (s : State) : Result := bitSet 1 .l 8 s

/-- `SET 1,(HL)` (CB CE; R305). -/
def execSet_1_MemHL (s : State) : Result := bitSet 1 .mHL 16 s

/-- `SET 1,A` (CB CF; R305). -/
def execSet_1_A (s : State) : Result := bitSet 1 .a 8 s

/-- `SET 2,B` (CB D0; R305). -/
def execSet_2_B (s : State) : Result := bitSet 2 .b 8 s

/-- `SET 2,C` (CB D1; R305). -/
def execSet_2_C (s : State) : Result := bitSet 2 .c 8 s

/-- `SET 2,D` (CB D2; R305). -/
def execSet_2_D (s : State) : Result := bitSet 2 .d 8 s

/-- `SET 2,E` (CB D3; R305). -/
def execSet_2_E (s : State) : Result := bitSet 2 .e 8 s

/-- `SET 2,H` (CB D4; R305). -/
def execSet_2_H (s : State) : Result := bitSet 2 .h 8 s

/-- `SET 2,L` (CB D5; R305). -/
def execSet_2_L (s : State) : Result := bitSet 2 .l 8 s

/-- `SET 2,(HL)` (CB D6; R305). -/
def execSet_2_MemHL (s : State) : Result := bitSet 2 .mHL 16 s

/-- `SET 2,A` (CB D7; R305). -/
def execSet_2_A (s : State) : Result := bitSet 2 .a 8 s

/-- `SET 3,B` (CB D8; R305). -/
def execSet_3_B (s : State) : Result := bitSet 3 .b 8 s

/-- `SET 3,C` (CB D9; R305). -/
def execSet_3_C (s : State) : Result := bitSet 3 .c 8 s

/-- `SET 3,D` (CB DA; R305). -/
def execSet_3_D (s : State) : Result := bitSet 3 .d 8 s

/-- `SET 3,E` (CB DB; R305). -/
def execSet_3_E (s : State) : Result := bitSet 3 .e 8 s

/-- `SET 3,H` (CB DC; R305). -/
def execSet_3_H (s : State) : Result := bitSet 3 .h 8 s

/-- `SET 3,L` (CB DD; R305). -/
def execSet_3_L (s : State) : Result := bitSet 3 .l 8 s

/-- `SET 3,(HL)` (CB DE; R305). -/
def execSet_3_MemHL (s : State) : Result := bitSet 3 .mHL 16 s

/-- `SET 3,A` (CB DF; R305). -/
def execSet_3_A (s : State) : Result := bitSet 3 .a 8 s

/-- `SET 4,B` (CB E0; R305). -/
def execSet_4_B (s : State) : Result := bitSet 4 .b 8 s

/-- `SET 4,C` (CB E1; R305). -/
def execSet_4_C (s : State) : Result := bitSet 4 .c 8 s

/-- `SET 4,D` (CB E2; R305). -/
def execSet_4_D (s : State) : Result := bitSet 4 .d 8 s

/-- `SET 4,E` (CB E3; R305). -/
def execSet_4_E (s : State) : Result := bitSet 4 .e 8 s

/-- `SET 4,H` (CB E4; R305). -/
def execSet_4_H (s : State) : Result := bitSet 4 .h 8 s

/-- `SET 4,L` (CB E5; R305). -/
def execSet_4_L (s : State) : Result := bitSet 4 .l 8 s

/-- `SET 4,(HL)` (CB E6; R305). -/
def execSet_4_MemHL (s : State) : Result := bitSet 4 .mHL 16 s

/-- `SET 4,A` (CB E7; R305). -/
def execSet_4_A (s : State) : Result := bitSet 4 .a 8 s

/-- `SET 5,B` (CB E8; R305). -/
def execSet_5_B (s : State) : Result := bitSet 5 .b 8 s

/-- `SET 5,C` (CB E9; R305). -/
def execSet_5_C (s : State) : Result := bitSet 5 .c 8 s

/-- `SET 5,D` (CB EA; R305). -/
def execSet_5_D (s : State) : Result := bitSet 5 .d 8 s

/-- `SET 5,E` (CB EB; R305). -/
def execSet_5_E (s : State) : Result := bitSet 5 .e 8 s

/-- `SET 5,H` (CB EC; R305). -/
def execSet_5_H (s : State) : Result := bitSet 5 .h 8 s

/-- `SET 5,L` (CB ED; R305). -/
def execSet_5_L (s : State) : Result := bitSet 5 .l 8 s

/-- `SET 5,(HL)` (CB EE; R305). -/
def execSet_5_MemHL (s : State) : Result := bitSet 5 .mHL 16 s

/-- `SET 5,A` (CB EF; R305). -/
def execSet_5_A (s : State) : Result := bitSet 5 .a 8 s

/-- `SET 6,B` (CB F0; R305). -/
def execSet_6_B (s : State) : Result := bitSet 6 .b 8 s

/-- `SET 6,C` (CB F1; R305). -/
def execSet_6_C (s : State) : Result := bitSet 6 .c 8 s

/-- `SET 6,D` (CB F2; R305). -/
def execSet_6_D (s : State) : Result := bitSet 6 .d 8 s

/-- `SET 6,E` (CB F3; R305). -/
def execSet_6_E (s : State) : Result := bitSet 6 .e 8 s

/-- `SET 6,H` (CB F4; R305). -/
def execSet_6_H (s : State) : Result := bitSet 6 .h 8 s

/-- `SET 6,L` (CB F5; R305). -/
def execSet_6_L (s : State) : Result := bitSet 6 .l 8 s

/-- `SET 6,(HL)` (CB F6; R305). -/
def execSet_6_MemHL (s : State) : Result := bitSet 6 .mHL 16 s

/-- `SET 6,A` (CB F7; R305). -/
def execSet_6_A (s : State) : Result := bitSet 6 .a 8 s

/-- `SET 7,B` (CB F8; R305). -/
def execSet_7_B (s : State) : Result := bitSet 7 .b 8 s

/-- `SET 7,C` (CB F9; R305). -/
def execSet_7_C (s : State) : Result := bitSet 7 .c 8 s

/-- `SET 7,D` (CB FA; R305). -/
def execSet_7_D (s : State) : Result := bitSet 7 .d 8 s

/-- `SET 7,E` (CB FB; R305). -/
def execSet_7_E (s : State) : Result := bitSet 7 .e 8 s

/-- `SET 7,H` (CB FC; R305). -/
def execSet_7_H (s : State) : Result := bitSet 7 .h 8 s

/-- `SET 7,L` (CB FD; R305). -/
def execSet_7_L (s : State) : Result := bitSet 7 .l 8 s

/-- `SET 7,(HL)` (CB FE; R305). -/
def execSet_7_MemHL (s : State) : Result := bitSet 7 .mHL 16 s

/-- `SET 7,A` (CB FF; R305). -/
def execSet_7_A (s : State) : Result := bitSet 7 .a 8 s

end Sys2Proof.Machine
end

