-- ==== Sys2Proof/Machine/Control.lean ====
section
/-! DEFINITION. The meanings of the jumps, calls, returns and restarts (45_control.md R310-R321). PC is already past the whole instruction. A conditional form charges its alternate count when taken and its base count when not (30 R148). Every meaning charges its own cost in clock ticks (70 R462). -/

namespace Sys2Proof.Machine

/-- `PC <- target` (R311, R313, R314). -/
def jump (target : Word) (cost : Nat) (s : State) : Result := .next ((s.setPc target).tick cost)

/-- `PC <- target` if the condition holds (R312, R315). -/
def jumpIf (cond : Cond) (target : Word) (taken base : Nat) (s : State) : Result :=
  if s.holds cond then .next ((s.setPc target).tick taken) else .next (s.tick base)

/-- `Push16(PC); PC <- target` (R316, R321). -/
def call (target : Word) (cost : Nat) (s : State) : Result := .next (((s.push16 s.pc).setPc target).tick cost)

/-- The call if the condition holds; not taken, nothing is pushed (R317). -/
def callIf (cond : Cond) (target : Word) (taken base : Nat) (s : State) : Result :=
  if s.holds cond then .next (((s.push16 s.pc).setPc target).tick taken) else .next (s.tick base)

/-- `PC <- Pop16()` (R318). -/
def retOp (cost : Nat) (s : State) : Result := .next (s.popPc.tick cost)

/-- The return if the condition holds; not taken, nothing is popped (R319). -/
def retIf (cond : Cond) (taken base : Nat) (s : State) : Result :=
  if s.holds cond then .next (s.popPc.tick taken) else .next (s.tick base)

/-- `PC <- Pop16(); IME <- 1` at once (R320). -/
def retiOp (cost : Nat) (s : State) : Result := .next (s.returnFromInterrupt.tick cost)

/-- `JR e8` (18; R314). -/
def execJr_e8 (e : Byte) (s : State) : Result := jump (relTarget s.pc e) 12 s

/-- `JR NZ,e8` (20; R315). -/
def execJr_NZ_e8 (e : Byte) (s : State) : Result := jumpIf .nz (relTarget s.pc e) 12 8 s

/-- `JR Z,e8` (28; R315). -/
def execJr_Z_e8 (e : Byte) (s : State) : Result := jumpIf .z (relTarget s.pc e) 12 8 s

/-- `JR NC,e8` (30; R315). -/
def execJr_NC_e8 (e : Byte) (s : State) : Result := jumpIf .nc (relTarget s.pc e) 12 8 s

/-- `JR C,e8` (38; R315). -/
def execJr_C_e8 (e : Byte) (s : State) : Result := jumpIf .c (relTarget s.pc e) 12 8 s

/-- `RET NZ` (C0; R319). -/
def execRet_NZ (s : State) : Result := retIf .nz 20 8 s

/-- `JP NZ,a16` (C2; R312). -/
def execJp_NZ_a16 (nn : Word) (s : State) : Result := jumpIf .nz nn 16 12 s

/-- `JP a16` (C3; R311). -/
def execJp_a16 (nn : Word) (s : State) : Result := jump nn 16 s

/-- `CALL NZ,a16` (C4; R317). -/
def execCall_NZ_a16 (nn : Word) (s : State) : Result := callIf .nz nn 24 12 s

/-- `RST 0x00` (C7; R321). -/
def execRst_00 (s : State) : Result := call 0x00 16 s

/-- `RET Z` (C8; R319). -/
def execRet_Z (s : State) : Result := retIf .z 20 8 s

/-- `RET` (C9; R318). -/
def execRet (s : State) : Result := retOp 16 s

/-- `JP Z,a16` (CA; R312). -/
def execJp_Z_a16 (nn : Word) (s : State) : Result := jumpIf .z nn 16 12 s

/-- `CALL Z,a16` (CC; R317). -/
def execCall_Z_a16 (nn : Word) (s : State) : Result := callIf .z nn 24 12 s

/-- `CALL a16` (CD; R316). -/
def execCall_a16 (nn : Word) (s : State) : Result := call nn 24 s

/-- `RST 0x08` (CF; R321). -/
def execRst_08 (s : State) : Result := call 0x08 16 s

/-- `RET NC` (D0; R319). -/
def execRet_NC (s : State) : Result := retIf .nc 20 8 s

/-- `JP NC,a16` (D2; R312). -/
def execJp_NC_a16 (nn : Word) (s : State) : Result := jumpIf .nc nn 16 12 s

/-- `CALL NC,a16` (D4; R317). -/
def execCall_NC_a16 (nn : Word) (s : State) : Result := callIf .nc nn 24 12 s

/-- `RST 0x10` (D7; R321). -/
def execRst_10 (s : State) : Result := call 0x10 16 s

/-- `RET C` (D8; R319). -/
def execRet_C (s : State) : Result := retIf .c 20 8 s

/-- `RETI` (D9; R320). -/
def execReti (s : State) : Result := retiOp 16 s

/-- `JP C,a16` (DA; R312). -/
def execJp_C_a16 (nn : Word) (s : State) : Result := jumpIf .c nn 16 12 s

/-- `CALL C,a16` (DC; R317). -/
def execCall_C_a16 (nn : Word) (s : State) : Result := callIf .c nn 24 12 s

/-- `RST 0x18` (DF; R321). -/
def execRst_18 (s : State) : Result := call 0x18 16 s

/-- `RST 0x20` (E7; R321). -/
def execRst_20 (s : State) : Result := call 0x20 16 s

/-- `JP HL` (E9; R313). -/
def execJp_HL (s : State) : Result := jump s.hl 4 s

/-- `RST 0x28` (EF; R321). -/
def execRst_28 (s : State) : Result := call 0x28 16 s

/-- `RST 0x30` (F7; R321). -/
def execRst_30 (s : State) : Result := call 0x30 16 s

/-- `RST 0x38` (FF; R321). -/
def execRst_38 (s : State) : Result := call 0x38 16 s

end Sys2Proof.Machine
end

