-- ==== Sys2Proof/Machine/Load16.lean ====
section
/-! DEFINITION. The meanings of the 16-bit loads and the stack (41_load16_stack.md R230-R236). Every meaning charges its own cost in clock ticks (70 R462). -/

namespace Sys2Proof.Machine

/-- `r16[p] <- n16` (R230). -/
def ldImm16 (p : R16) (nn : Word) (cost : Nat) (s : State) : Result := .next ((s.setR16 p nn).tick cost)

/-- SP to memory, low byte first (R231). -/
def ldMemSp (addr : Word) (cost : Nat) (s : State) : Result :=
  .next (((s.busWrite addr (loByte s.sp)).busWrite (addr + 1) (hiByte s.sp)).tick cost)

/-- `SP <- HL` (R232). -/
def ldSpHl (cost : Nat) (s : State) : Result := .next ((s.setSp s.hl).tick cost)

/-- `Push16(r16stk[p])` (R233). -/
def push (p : R16Stk) (cost : Nat) (s : State) : Result := .next ((s.push16 (s.r16stk p)).tick cost)

/-- `r16stk[p] <- Pop16()`; AF drops F's low nibble (R234, R235). -/
def pop (p : R16Stk) (cost : Nat) (s : State) : Result := .next ((s.dropTop.setR16stk p s.top16).tick cost)

/-- `HL <- SP + e8` with H and C from the low byte (R236). -/
def ldHlSp (e : Byte) (cost : Nat) (s : State) : Result :=
  .next (((s.setHl (s.sp + sext16 e)).setSpFlags s.sp e).tick cost)

/-- `LD BC,n16` (01; R230). -/
def execLd_BC_n16 (nn : Word) (s : State) : Result := ldImm16 .bc nn 12 s

/-- `LD (a16),SP` (08; R231). -/
def execLd_MemA16_SP (nn : Word) (s : State) : Result := ldMemSp nn 20 s

/-- `LD DE,n16` (11; R230). -/
def execLd_DE_n16 (nn : Word) (s : State) : Result := ldImm16 .de nn 12 s

/-- `LD HL,n16` (21; R230). -/
def execLd_HL_n16 (nn : Word) (s : State) : Result := ldImm16 .hl nn 12 s

/-- `LD SP,n16` (31; R230). -/
def execLd_SP_n16 (nn : Word) (s : State) : Result := ldImm16 .sp nn 12 s

/-- `POP BC` (C1; R234). -/
def execPop_BC (s : State) : Result := pop .bc 12 s

/-- `PUSH BC` (C5; R233). -/
def execPush_BC (s : State) : Result := push .bc 16 s

/-- `POP DE` (D1; R234). -/
def execPop_DE (s : State) : Result := pop .de 12 s

/-- `PUSH DE` (D5; R233). -/
def execPush_DE (s : State) : Result := push .de 16 s

/-- `POP HL` (E1; R234). -/
def execPop_HL (s : State) : Result := pop .hl 12 s

/-- `PUSH HL` (E5; R233). -/
def execPush_HL (s : State) : Result := push .hl 16 s

/-- `POP AF` (F1; R235). -/
def execPop_AF (s : State) : Result := pop .af 12 s

/-- `PUSH AF` (F5; R233). -/
def execPush_AF (s : State) : Result := push .af 16 s

/-- `LD HL,SP+e8` (F8; R236). -/
def execLd_HL_SPe8 (e : Byte) (s : State) : Result := ldHlSp e 12 s

/-- `LD SP,HL` (F9; R232). -/
def execLd_SP_HL (s : State) : Result := ldSpHl 8 s

end Sys2Proof.Machine
end

