-- ==== Sys2Proof/Machine/Load8.lean ====
section
/-! DEFINITION. The meanings of the 8-bit loads (40_load8.md R201-R217). PC is already past the instruction (30 R146); no flag is written. Every meaning charges its own cost in clock ticks (70 R462). -/

namespace Sys2Proof.Machine

/-- `r8[dst] <- r8[src]`, one of them possibly (HL): `LD r,r'`, `LD r,(HL)`, `LD (HL),r` (R201, R203, R204). -/
def ldReg (dst src : R8) (cost : Nat) (s : State) : Result := .next ((s.setR8 dst (s.r8 src)).tick cost)

/-- `r8[dst] <- n8`: `LD r,n8`, `LD (HL),n8` (R202, R205). -/
def ldImm (dst : R8) (n : Byte) (cost : Nat) (s : State) : Result := .next ((s.setR8 dst n).tick cost)

/-- `A <- MemRead(addr, 1)` (R206, R212, R214, R216). -/
def ldAFrom (addr : Word) (cost : Nat) (s : State) : Result := .next ((s.setA (s.busRead addr)).tick cost)

/-- `MemWrite(addr, 1, A)` (R207, R213, R215, R217). -/
def ldAInto (addr : Word) (cost : Nat) (s : State) : Result := .next ((s.busWrite addr s.a).tick cost)

/-- `A <- MemRead(HL, 1)`, then HL steps by `delta` (R208, R209). -/
def ldAStep (delta : Word) (cost : Nat) (s : State) : Result :=
  .next (((s.setA (s.busRead s.hl)).setHl (s.hl + delta)).tick cost)

/-- `MemWrite(HL, 1, A)`, then HL steps by `delta` (R210, R211). -/
def stAStep (delta : Word) (cost : Nat) (s : State) : Result :=
  .next (((s.busWrite s.hl s.a).setHl (s.hl + delta)).tick cost)

/-- `LD (BC),A` (02; R207). -/
def execLd_MemBC_A (s : State) : Result := ldAInto s.bc 8 s

/-- `LD B,n8` (06; R202). -/
def execLd_B_n8 (n : Byte) (s : State) : Result := ldImm .b n 8 s

/-- `LD A,(BC)` (0A; R206). -/
def execLd_A_MemBC (s : State) : Result := ldAFrom s.bc 8 s

/-- `LD C,n8` (0E; R202). -/
def execLd_C_n8 (n : Byte) (s : State) : Result := ldImm .c n 8 s

/-- `LD (DE),A` (12; R207). -/
def execLd_MemDE_A (s : State) : Result := ldAInto s.de 8 s

/-- `LD D,n8` (16; R202). -/
def execLd_D_n8 (n : Byte) (s : State) : Result := ldImm .d n 8 s

/-- `LD A,(DE)` (1A; R206). -/
def execLd_A_MemDE (s : State) : Result := ldAFrom s.de 8 s

/-- `LD E,n8` (1E; R202). -/
def execLd_E_n8 (n : Byte) (s : State) : Result := ldImm .e n 8 s

/-- `LD (HL+),A` (22; R210). -/
def execLd_MemHLInc_A (s : State) : Result := stAStep 1 8 s

/-- `LD H,n8` (26; R202). -/
def execLd_H_n8 (n : Byte) (s : State) : Result := ldImm .h n 8 s

/-- `LD A,(HL+)` (2A; R208). -/
def execLd_A_MemHLInc (s : State) : Result := ldAStep 1 8 s

/-- `LD L,n8` (2E; R202). -/
def execLd_L_n8 (n : Byte) (s : State) : Result := ldImm .l n 8 s

/-- `LD (HL-),A` (32; R211). -/
def execLd_MemHLDec_A (s : State) : Result := stAStep 0xFFFF 8 s

/-- `LD (HL),n8` (36; R205). -/
def execLd_MemHL_n8 (n : Byte) (s : State) : Result := ldImm .mHL n 12 s

/-- `LD A,(HL-)` (3A; R209). -/
def execLd_A_MemHLDec (s : State) : Result := ldAStep 0xFFFF 8 s

/-- `LD A,n8` (3E; R202). -/
def execLd_A_n8 (n : Byte) (s : State) : Result := ldImm .a n 8 s

/-- `LD B,B` (40; R201). -/
def execLd_B_B (s : State) : Result := ldReg .b .b 4 s

/-- `LD B,C` (41; R201). -/
def execLd_B_C (s : State) : Result := ldReg .b .c 4 s

/-- `LD B,D` (42; R201). -/
def execLd_B_D (s : State) : Result := ldReg .b .d 4 s

/-- `LD B,E` (43; R201). -/
def execLd_B_E (s : State) : Result := ldReg .b .e 4 s

/-- `LD B,H` (44; R201). -/
def execLd_B_H (s : State) : Result := ldReg .b .h 4 s

/-- `LD B,L` (45; R201). -/
def execLd_B_L (s : State) : Result := ldReg .b .l 4 s

/-- `LD B,(HL)` (46; R203). -/
def execLd_B_MemHL (s : State) : Result := ldReg .b .mHL 8 s

/-- `LD B,A` (47; R201). -/
def execLd_B_A (s : State) : Result := ldReg .b .a 4 s

/-- `LD C,B` (48; R201). -/
def execLd_C_B (s : State) : Result := ldReg .c .b 4 s

/-- `LD C,C` (49; R201). -/
def execLd_C_C (s : State) : Result := ldReg .c .c 4 s

/-- `LD C,D` (4A; R201). -/
def execLd_C_D (s : State) : Result := ldReg .c .d 4 s

/-- `LD C,E` (4B; R201). -/
def execLd_C_E (s : State) : Result := ldReg .c .e 4 s

/-- `LD C,H` (4C; R201). -/
def execLd_C_H (s : State) : Result := ldReg .c .h 4 s

/-- `LD C,L` (4D; R201). -/
def execLd_C_L (s : State) : Result := ldReg .c .l 4 s

/-- `LD C,(HL)` (4E; R203). -/
def execLd_C_MemHL (s : State) : Result := ldReg .c .mHL 8 s

/-- `LD C,A` (4F; R201). -/
def execLd_C_A (s : State) : Result := ldReg .c .a 4 s

/-- `LD D,B` (50; R201). -/
def execLd_D_B (s : State) : Result := ldReg .d .b 4 s

/-- `LD D,C` (51; R201). -/
def execLd_D_C (s : State) : Result := ldReg .d .c 4 s

/-- `LD D,D` (52; R201). -/
def execLd_D_D (s : State) : Result := ldReg .d .d 4 s

/-- `LD D,E` (53; R201). -/
def execLd_D_E (s : State) : Result := ldReg .d .e 4 s

/-- `LD D,H` (54; R201). -/
def execLd_D_H (s : State) : Result := ldReg .d .h 4 s

/-- `LD D,L` (55; R201). -/
def execLd_D_L (s : State) : Result := ldReg .d .l 4 s

/-- `LD D,(HL)` (56; R203). -/
def execLd_D_MemHL (s : State) : Result := ldReg .d .mHL 8 s

/-- `LD D,A` (57; R201). -/
def execLd_D_A (s : State) : Result := ldReg .d .a 4 s

/-- `LD E,B` (58; R201). -/
def execLd_E_B (s : State) : Result := ldReg .e .b 4 s

/-- `LD E,C` (59; R201). -/
def execLd_E_C (s : State) : Result := ldReg .e .c 4 s

/-- `LD E,D` (5A; R201). -/
def execLd_E_D (s : State) : Result := ldReg .e .d 4 s

/-- `LD E,E` (5B; R201). -/
def execLd_E_E (s : State) : Result := ldReg .e .e 4 s

/-- `LD E,H` (5C; R201). -/
def execLd_E_H (s : State) : Result := ldReg .e .h 4 s

/-- `LD E,L` (5D; R201). -/
def execLd_E_L (s : State) : Result := ldReg .e .l 4 s

/-- `LD E,(HL)` (5E; R203). -/
def execLd_E_MemHL (s : State) : Result := ldReg .e .mHL 8 s

/-- `LD E,A` (5F; R201). -/
def execLd_E_A (s : State) : Result := ldReg .e .a 4 s

/-- `LD H,B` (60; R201). -/
def execLd_H_B (s : State) : Result := ldReg .h .b 4 s

/-- `LD H,C` (61; R201). -/
def execLd_H_C (s : State) : Result := ldReg .h .c 4 s

/-- `LD H,D` (62; R201). -/
def execLd_H_D (s : State) : Result := ldReg .h .d 4 s

/-- `LD H,E` (63; R201). -/
def execLd_H_E (s : State) : Result := ldReg .h .e 4 s

/-- `LD H,H` (64; R201). -/
def execLd_H_H (s : State) : Result := ldReg .h .h 4 s

/-- `LD H,L` (65; R201). -/
def execLd_H_L (s : State) : Result := ldReg .h .l 4 s

/-- `LD H,(HL)` (66; R203). -/
def execLd_H_MemHL (s : State) : Result := ldReg .h .mHL 8 s

/-- `LD H,A` (67; R201). -/
def execLd_H_A (s : State) : Result := ldReg .h .a 4 s

/-- `LD L,B` (68; R201). -/
def execLd_L_B (s : State) : Result := ldReg .l .b 4 s

/-- `LD L,C` (69; R201). -/
def execLd_L_C (s : State) : Result := ldReg .l .c 4 s

/-- `LD L,D` (6A; R201). -/
def execLd_L_D (s : State) : Result := ldReg .l .d 4 s

/-- `LD L,E` (6B; R201). -/
def execLd_L_E (s : State) : Result := ldReg .l .e 4 s

/-- `LD L,H` (6C; R201). -/
def execLd_L_H (s : State) : Result := ldReg .l .h 4 s

/-- `LD L,L` (6D; R201). -/
def execLd_L_L (s : State) : Result := ldReg .l .l 4 s

/-- `LD L,(HL)` (6E; R203). -/
def execLd_L_MemHL (s : State) : Result := ldReg .l .mHL 8 s

/-- `LD L,A` (6F; R201). -/
def execLd_L_A (s : State) : Result := ldReg .l .a 4 s

/-- `LD (HL),B` (70; R204). -/
def execLd_MemHL_B (s : State) : Result := ldReg .mHL .b 8 s

/-- `LD (HL),C` (71; R204). -/
def execLd_MemHL_C (s : State) : Result := ldReg .mHL .c 8 s

/-- `LD (HL),D` (72; R204). -/
def execLd_MemHL_D (s : State) : Result := ldReg .mHL .d 8 s

/-- `LD (HL),E` (73; R204). -/
def execLd_MemHL_E (s : State) : Result := ldReg .mHL .e 8 s

/-- `LD (HL),H` (74; R204). -/
def execLd_MemHL_H (s : State) : Result := ldReg .mHL .h 8 s

/-- `LD (HL),L` (75; R204). -/
def execLd_MemHL_L (s : State) : Result := ldReg .mHL .l 8 s

/-- `LD (HL),A` (77; R204). -/
def execLd_MemHL_A (s : State) : Result := ldReg .mHL .a 8 s

/-- `LD A,B` (78; R201). -/
def execLd_A_B (s : State) : Result := ldReg .a .b 4 s

/-- `LD A,C` (79; R201). -/
def execLd_A_C (s : State) : Result := ldReg .a .c 4 s

/-- `LD A,D` (7A; R201). -/
def execLd_A_D (s : State) : Result := ldReg .a .d 4 s

/-- `LD A,E` (7B; R201). -/
def execLd_A_E (s : State) : Result := ldReg .a .e 4 s

/-- `LD A,H` (7C; R201). -/
def execLd_A_H (s : State) : Result := ldReg .a .h 4 s

/-- `LD A,L` (7D; R201). -/
def execLd_A_L (s : State) : Result := ldReg .a .l 4 s

/-- `LD A,(HL)` (7E; R203). -/
def execLd_A_MemHL (s : State) : Result := ldReg .a .mHL 8 s

/-- `LD A,A` (7F; R201). -/
def execLd_A_A (s : State) : Result := ldReg .a .a 4 s

/-- `LDH (a8),A` (E0; R215). -/
def execLdh_MemA8_A (a : Byte) (s : State) : Result := ldAInto (highPage a) 12 s

/-- `LD (C),A` (E2; R217). -/
def execLd_MemC_A (s : State) : Result := ldAInto (highPage s.c) 8 s

/-- `LD (a16),A` (EA; R213). -/
def execLd_MemA16_A (nn : Word) (s : State) : Result := ldAInto nn 16 s

/-- `LDH A,(a8)` (F0; R214). -/
def execLdh_A_MemA8 (a : Byte) (s : State) : Result := ldAFrom (highPage a) 12 s

/-- `LD A,(C)` (F2; R216). -/
def execLd_A_MemC (s : State) : Result := ldAFrom (highPage s.c) 8 s

/-- `LD A,(a16)` (FA; R212). -/
def execLd_A_MemA16 (nn : Word) (s : State) : Result := ldAFrom nn 16 s

end Sys2Proof.Machine
end

