-- ==== Sys2Proof/Machine/Rotate.lean ====
section
/-! DEFINITION. The meanings of the rotates and shifts: RLCA, RRCA, RLA, RRA and the CB rotate, shift and swap group (44_rotate_shift_bit.md R290-R302). Every meaning charges its own cost in clock ticks (70 R462). -/

namespace Sys2Proof.Machine

/-- The accumulator rotates: as the CB form on A, but Z is cleared (R290-R293). -/
def rotA (op : RotOp) (cost : Nat) (s : State) : Result :=
  let out := op.compute s.a s.flagC
  .next (((s.setA out.val).setFlags false false false out.c).tick cost)

/-- `rot[y] r8[z]`: the operand is read once and written once (R294-R302). -/
def rotR8 (op : RotOp) (r : R8) (cost : Nat) (s : State) : Result :=
  let out := op.compute (s.r8 r) s.flagC
  .next (((s.setR8 r out.val).putFlags out).tick cost)

/-- `RLCA` (07; R290). -/
def execRlca (s : State) : Result := rotA .rlc 4 s

/-- `RRCA` (0F; R291). -/
def execRrca (s : State) : Result := rotA .rrc 4 s

/-- `RLA` (17; R292). -/
def execRla (s : State) : Result := rotA .rl 4 s

/-- `RRA` (1F; R293). -/
def execRra (s : State) : Result := rotA .rr 4 s

/-- `RLC B` (CB 00; R295). -/
def execRlc_B (s : State) : Result := rotR8 .rlc .b 8 s

/-- `RLC C` (CB 01; R295). -/
def execRlc_C (s : State) : Result := rotR8 .rlc .c 8 s

/-- `RLC D` (CB 02; R295). -/
def execRlc_D (s : State) : Result := rotR8 .rlc .d 8 s

/-- `RLC E` (CB 03; R295). -/
def execRlc_E (s : State) : Result := rotR8 .rlc .e 8 s

/-- `RLC H` (CB 04; R295). -/
def execRlc_H (s : State) : Result := rotR8 .rlc .h 8 s

/-- `RLC L` (CB 05; R295). -/
def execRlc_L (s : State) : Result := rotR8 .rlc .l 8 s

/-- `RLC (HL)` (CB 06; R295). -/
def execRlc_MemHL (s : State) : Result := rotR8 .rlc .mHL 16 s

/-- `RLC A` (CB 07; R295). -/
def execRlc_A (s : State) : Result := rotR8 .rlc .a 8 s

/-- `RRC B` (CB 08; R296). -/
def execRrc_B (s : State) : Result := rotR8 .rrc .b 8 s

/-- `RRC C` (CB 09; R296). -/
def execRrc_C (s : State) : Result := rotR8 .rrc .c 8 s

/-- `RRC D` (CB 0A; R296). -/
def execRrc_D (s : State) : Result := rotR8 .rrc .d 8 s

/-- `RRC E` (CB 0B; R296). -/
def execRrc_E (s : State) : Result := rotR8 .rrc .e 8 s

/-- `RRC H` (CB 0C; R296). -/
def execRrc_H (s : State) : Result := rotR8 .rrc .h 8 s

/-- `RRC L` (CB 0D; R296). -/
def execRrc_L (s : State) : Result := rotR8 .rrc .l 8 s

/-- `RRC (HL)` (CB 0E; R296). -/
def execRrc_MemHL (s : State) : Result := rotR8 .rrc .mHL 16 s

/-- `RRC A` (CB 0F; R296). -/
def execRrc_A (s : State) : Result := rotR8 .rrc .a 8 s

/-- `RL B` (CB 10; R297). -/
def execRl_B (s : State) : Result := rotR8 .rl .b 8 s

/-- `RL C` (CB 11; R297). -/
def execRl_C (s : State) : Result := rotR8 .rl .c 8 s

/-- `RL D` (CB 12; R297). -/
def execRl_D (s : State) : Result := rotR8 .rl .d 8 s

/-- `RL E` (CB 13; R297). -/
def execRl_E (s : State) : Result := rotR8 .rl .e 8 s

/-- `RL H` (CB 14; R297). -/
def execRl_H (s : State) : Result := rotR8 .rl .h 8 s

/-- `RL L` (CB 15; R297). -/
def execRl_L (s : State) : Result := rotR8 .rl .l 8 s

/-- `RL (HL)` (CB 16; R297). -/
def execRl_MemHL (s : State) : Result := rotR8 .rl .mHL 16 s

/-- `RL A` (CB 17; R297). -/
def execRl_A (s : State) : Result := rotR8 .rl .a 8 s

/-- `RR B` (CB 18; R298). -/
def execRr_B (s : State) : Result := rotR8 .rr .b 8 s

/-- `RR C` (CB 19; R298). -/
def execRr_C (s : State) : Result := rotR8 .rr .c 8 s

/-- `RR D` (CB 1A; R298). -/
def execRr_D (s : State) : Result := rotR8 .rr .d 8 s

/-- `RR E` (CB 1B; R298). -/
def execRr_E (s : State) : Result := rotR8 .rr .e 8 s

/-- `RR H` (CB 1C; R298). -/
def execRr_H (s : State) : Result := rotR8 .rr .h 8 s

/-- `RR L` (CB 1D; R298). -/
def execRr_L (s : State) : Result := rotR8 .rr .l 8 s

/-- `RR (HL)` (CB 1E; R298). -/
def execRr_MemHL (s : State) : Result := rotR8 .rr .mHL 16 s

/-- `RR A` (CB 1F; R298). -/
def execRr_A (s : State) : Result := rotR8 .rr .a 8 s

/-- `SLA B` (CB 20; R299). -/
def execSla_B (s : State) : Result := rotR8 .sla .b 8 s

/-- `SLA C` (CB 21; R299). -/
def execSla_C (s : State) : Result := rotR8 .sla .c 8 s

/-- `SLA D` (CB 22; R299). -/
def execSla_D (s : State) : Result := rotR8 .sla .d 8 s

/-- `SLA E` (CB 23; R299). -/
def execSla_E (s : State) : Result := rotR8 .sla .e 8 s

/-- `SLA H` (CB 24; R299). -/
def execSla_H (s : State) : Result := rotR8 .sla .h 8 s

/-- `SLA L` (CB 25; R299). -/
def execSla_L (s : State) : Result := rotR8 .sla .l 8 s

/-- `SLA (HL)` (CB 26; R299). -/
def execSla_MemHL (s : State) : Result := rotR8 .sla .mHL 16 s

/-- `SLA A` (CB 27; R299). -/
def execSla_A (s : State) : Result := rotR8 .sla .a 8 s

/-- `SRA B` (CB 28; R300). -/
def execSra_B (s : State) : Result := rotR8 .sra .b 8 s

/-- `SRA C` (CB 29; R300). -/
def execSra_C (s : State) : Result := rotR8 .sra .c 8 s

/-- `SRA D` (CB 2A; R300). -/
def execSra_D (s : State) : Result := rotR8 .sra .d 8 s

/-- `SRA E` (CB 2B; R300). -/
def execSra_E (s : State) : Result := rotR8 .sra .e 8 s

/-- `SRA H` (CB 2C; R300). -/
def execSra_H (s : State) : Result := rotR8 .sra .h 8 s

/-- `SRA L` (CB 2D; R300). -/
def execSra_L (s : State) : Result := rotR8 .sra .l 8 s

/-- `SRA (HL)` (CB 2E; R300). -/
def execSra_MemHL (s : State) : Result := rotR8 .sra .mHL 16 s

/-- `SRA A` (CB 2F; R300). -/
def execSra_A (s : State) : Result := rotR8 .sra .a 8 s

/-- `SWAP B` (CB 30; R301). -/
def execSwap_B (s : State) : Result := rotR8 .swap .b 8 s

/-- `SWAP C` (CB 31; R301). -/
def execSwap_C (s : State) : Result := rotR8 .swap .c 8 s

/-- `SWAP D` (CB 32; R301). -/
def execSwap_D (s : State) : Result := rotR8 .swap .d 8 s

/-- `SWAP E` (CB 33; R301). -/
def execSwap_E (s : State) : Result := rotR8 .swap .e 8 s

/-- `SWAP H` (CB 34; R301). -/
def execSwap_H (s : State) : Result := rotR8 .swap .h 8 s

/-- `SWAP L` (CB 35; R301). -/
def execSwap_L (s : State) : Result := rotR8 .swap .l 8 s

/-- `SWAP (HL)` (CB 36; R301). -/
def execSwap_MemHL (s : State) : Result := rotR8 .swap .mHL 16 s

/-- `SWAP A` (CB 37; R301). -/
def execSwap_A (s : State) : Result := rotR8 .swap .a 8 s

/-- `SRL B` (CB 38; R302). -/
def execSrl_B (s : State) : Result := rotR8 .srl .b 8 s

/-- `SRL C` (CB 39; R302). -/
def execSrl_C (s : State) : Result := rotR8 .srl .c 8 s

/-- `SRL D` (CB 3A; R302). -/
def execSrl_D (s : State) : Result := rotR8 .srl .d 8 s

/-- `SRL E` (CB 3B; R302). -/
def execSrl_E (s : State) : Result := rotR8 .srl .e 8 s

/-- `SRL H` (CB 3C; R302). -/
def execSrl_H (s : State) : Result := rotR8 .srl .h 8 s

/-- `SRL L` (CB 3D; R302). -/
def execSrl_L (s : State) : Result := rotR8 .srl .l 8 s

/-- `SRL (HL)` (CB 3E; R302). -/
def execSrl_MemHL (s : State) : Result := rotR8 .srl .mHL 16 s

/-- `SRL A` (CB 3F; R302). -/
def execSrl_A (s : State) : Result := rotR8 .srl .a 8 s

end Sys2Proof.Machine
end

