-- ==== Sys2Proof/Machine/System.lean ====
section
/-! DEFINITION. The meanings of the NOP, HALT, STOP, DI, EI, the unused opcodes and the CB prefix row (46_system.md R330-R336). Every meaning charges its own cost in clock ticks (70 R462). -/

namespace Sys2Proof.Machine

/-- Nothing but the cost (R330). -/
def nopOp (cost : Nat) (s : State) : Result := .next (s.tick cost)

/-- `HALT`: the HALT bug when IME = 0 and an enabled request is pending, else the stall (R331). -/
def haltOp (cost : Nat) (s : State) : Result :=
  if !s.ime && s.pending != 0 then .next ({ s with haltBug := true }.tick cost)
  else .next ({ s with halted := true }.tick cost)

/-- `STOP`: the speed switch when armed, else the stall (R332). The second byte was fetched and is ignored (30 R156). -/
def stopOp (cost : Nat) (s : State) : Result :=
  if s.key1Armed then .next ({ s with doubleSpeed := !s.doubleSpeed, key1Armed := false }.tick cost)
  else .next ({ s with stopped := true }.tick cost)

/-- `DI`: IME is cleared at once (R333). The step's own part of DI, not setting IME from a pending EI, is in Engine.lean. -/
def diOp (cost : Nat) (s : State) : Result := .next ((s.setIme false).tick cost)

/-- `EI`: "nothing in the action"; the step sets `ei_pending` after it, in Engine.lean (R334, 60 R410). -/
def eiOp (cost : Nat) (s : State) : Result := .next (s.tick cost)

/-- An unused opcode: a no-op, or lockup, by `P_UNUSED_OPCODE` (R335). -/
def unusedOp (cost : Nat) (s : State) : Result :=
  match s.params.unusedOpcode with
  | .nop => .next (s.tick cost)
  | .lockup => .fault .lockup

/-- `NOP` (00; R330). -/
def execNop (s : State) : Result := nopOp 4 s

/-- `STOP` (10; R332). -/
def execStop (_x : Byte) (s : State) : Result := stopOp 4 s

/-- `HALT` (76; R331). -/
def execHalt (s : State) : Result := haltOp 4 s

/-- The prefix byte in the unprefixed table (CB; R336): it is not executed, writes nothing and costs 0; decode gives the
CB-table entry instead (log 6). -/
def execCbPrefix (s : State) : Result := nopOp 0 s

/-- `UNUSED 0xD3` (D3; R335). -/
def execUnused_D3 (s : State) : Result := unusedOp 4 s

/-- `UNUSED 0xDB` (DB; R335). -/
def execUnused_DB (s : State) : Result := unusedOp 4 s

/-- `UNUSED 0xDD` (DD; R335). -/
def execUnused_DD (s : State) : Result := unusedOp 4 s

/-- `UNUSED 0xE3` (E3; R335). -/
def execUnused_E3 (s : State) : Result := unusedOp 4 s

/-- `UNUSED 0xE4` (E4; R335). -/
def execUnused_E4 (s : State) : Result := unusedOp 4 s

/-- `UNUSED 0xEB` (EB; R335). -/
def execUnused_EB (s : State) : Result := unusedOp 4 s

/-- `UNUSED 0xEC` (EC; R335). -/
def execUnused_EC (s : State) : Result := unusedOp 4 s

/-- `UNUSED 0xED` (ED; R335). -/
def execUnused_ED (s : State) : Result := unusedOp 4 s

/-- `DI` (F3; R333). -/
def execDi (s : State) : Result := diOp 4 s

/-- `UNUSED 0xF4` (F4; R335). -/
def execUnused_F4 (s : State) : Result := unusedOp 4 s

/-- `EI` (FB; R334). -/
def execEi (s : State) : Result := eiOp 4 s

/-- `UNUSED 0xFC` (FC; R335). -/
def execUnused_FC (s : State) : Result := unusedOp 4 s

/-- `UNUSED 0xFD` (FD; R335). -/
def execUnused_FD (s : State) : Result := unusedOp 4 s

end Sys2Proof.Machine
end

