-- ==== Sys2Proof/Syntax.lean ====
section
/-! DEFINITION. The instruction set: one constructor per row of spec/opcode_table.json (30_encoding.md R145, R151, R152), 256
unprefixed rows and 256 CB-prefixed ones, first those with an immediate, then the others, each in the order of their opcode
bytes. A register operand is in the name; an immediate (30 R142) is an argument: `n`, `a`, `e`, `x` a byte, `nn` a 16-bit word. `Mem..` is the byte at that address. -/

namespace Sys2Proof

/-- An instruction; the comment after each row gives its opcode bytes and the rule of its meaning. -/
inductive Instr where
  | ld_BC_n16 (nn : Word)  -- 01, R230
  | ld_B_n8 (n : Byte)  -- 06, R202
  | ld_MemA16_SP (nn : Word)  -- 08, R231
  | ld_C_n8 (n : Byte)  -- 0E, R202
  | stop (x : Byte)  -- 10, R332
  | ld_DE_n16 (nn : Word)  -- 11, R230
  | ld_D_n8 (n : Byte)  -- 16, R202
  | jr_e8 (e : Byte)  -- 18, R314
  | ld_E_n8 (n : Byte)  -- 1E, R202
  | jr_NZ_e8 (e : Byte)  -- 20, R315
  | ld_HL_n16 (nn : Word)  -- 21, R230
  | ld_H_n8 (n : Byte)  -- 26, R202
  | jr_Z_e8 (e : Byte)  -- 28, R315
  | ld_L_n8 (n : Byte)  -- 2E, R202
  | jr_NC_e8 (e : Byte)  -- 30, R315
  | ld_SP_n16 (nn : Word)  -- 31, R230
  | ld_MemHL_n8 (n : Byte)  -- 36, R205
  | jr_C_e8 (e : Byte)  -- 38, R315
  | ld_A_n8 (n : Byte)  -- 3E, R202
  | jp_NZ_a16 (nn : Word)  -- C2, R312
  | jp_a16 (nn : Word)  -- C3, R311
  | call_NZ_a16 (nn : Word)  -- C4, R317
  | add_A_n8 (n : Byte)  -- C6, R251
  | jp_Z_a16 (nn : Word)  -- CA, R312
  | call_Z_a16 (nn : Word)  -- CC, R317
  | call_a16 (nn : Word)  -- CD, R316
  | adc_A_n8 (n : Byte)  -- CE, R252
  | jp_NC_a16 (nn : Word)  -- D2, R312
  | call_NC_a16 (nn : Word)  -- D4, R317
  | sub_A_n8 (n : Byte)  -- D6, R253
  | jp_C_a16 (nn : Word)  -- DA, R312
  | call_C_a16 (nn : Word)  -- DC, R317
  | sbc_A_n8 (n : Byte)  -- DE, R254
  | ldh_MemA8_A (a : Byte)  -- E0, R215
  | and_A_n8 (n : Byte)  -- E6, R255
  | add_SP_e8 (e : Byte)  -- E8, R283
  | ld_MemA16_A (nn : Word)  -- EA, R213
  | xor_A_n8 (n : Byte)  -- EE, R256
  | ldh_A_MemA8 (a : Byte)  -- F0, R214
  | or_A_n8 (n : Byte)  -- F6, R257
  | ld_HL_SPe8 (e : Byte)  -- F8, R236
  | ld_A_MemA16 (nn : Word)  -- FA, R212
  | cp_A_n8 (n : Byte)  -- FE, R258
  | nop  -- 00, R330
  | ld_MemBC_A  -- 02, R207
  | inc_BC  -- 03, R281
  | inc_B  -- 04, R259
  | dec_B  -- 05, R261
  | rlca  -- 07, R290
  | add_HL_BC  -- 09, R280
  | ld_A_MemBC  -- 0A, R206
  | dec_BC  -- 0B, R282
  | inc_C  -- 0C, R259
  | dec_C  -- 0D, R261
  | rrca  -- 0F, R291
  | ld_MemDE_A  -- 12, R207
  | inc_DE  -- 13, R281
  | inc_D  -- 14, R259
  | dec_D  -- 15, R261
  | rla  -- 17, R292
  | add_HL_DE  -- 19, R280
  | ld_A_MemDE  -- 1A, R206
  | dec_DE  -- 1B, R282
  | inc_E  -- 1C, R259
  | dec_E  -- 1D, R261
  | rra  -- 1F, R293
  | ld_MemHLInc_A  -- 22, R210
  | inc_HL  -- 23, R281
  | inc_H  -- 24, R259
  | dec_H  -- 25, R261
  | daa  -- 27, R263
  | add_HL_HL  -- 29, R280
  | ld_A_MemHLInc  -- 2A, R208
  | dec_HL  -- 2B, R282
  | inc_L  -- 2C, R259
  | dec_L  -- 2D, R261
  | cpl  -- 2F, R264
  | ld_MemHLDec_A  -- 32, R211
  | inc_SP  -- 33, R281
  | inc_MemHL  -- 34, R260
  | dec_MemHL  -- 35, R262
  | scf  -- 37, R265
  | add_HL_SP  -- 39, R280
  | ld_A_MemHLDec  -- 3A, R209
  | dec_SP  -- 3B, R282
  | inc_A  -- 3C, R259
  | dec_A  -- 3D, R261
  | ccf  -- 3F, R266
  | ld_B_B  -- 40, R201
  | ld_B_C  -- 41, R201
  | ld_B_D  -- 42, R201
  | ld_B_E  -- 43, R201
  | ld_B_H  -- 44, R201
  | ld_B_L  -- 45, R201
  | ld_B_MemHL  -- 46, R203
  | ld_B_A  -- 47, R201
  | ld_C_B  -- 48, R201
  | ld_C_C  -- 49, R201
  | ld_C_D  -- 4A, R201
  | ld_C_E  -- 4B, R201
  | ld_C_H  -- 4C, R201
  | ld_C_L  -- 4D, R201
  | ld_C_MemHL  -- 4E, R203
  | ld_C_A  -- 4F, R201
  | ld_D_B  -- 50, R201
  | ld_D_C  -- 51, R201
  | ld_D_D  -- 52, R201
  | ld_D_E  -- 53, R201
  | ld_D_H  -- 54, R201
  | ld_D_L  -- 55, R201
  | ld_D_MemHL  -- 56, R203
  | ld_D_A  -- 57, R201
  | ld_E_B  -- 58, R201
  | ld_E_C  -- 59, R201
  | ld_E_D  -- 5A, R201
  | ld_E_E  -- 5B, R201
  | ld_E_H  -- 5C, R201
  | ld_E_L  -- 5D, R201
  | ld_E_MemHL  -- 5E, R203
  | ld_E_A  -- 5F, R201
  | ld_H_B  -- 60, R201
  | ld_H_C  -- 61, R201
  | ld_H_D  -- 62, R201
  | ld_H_E  -- 63, R201
  | ld_H_H  -- 64, R201
  | ld_H_L  -- 65, R201
  | ld_H_MemHL  -- 66, R203
  | ld_H_A  -- 67, R201
  | ld_L_B  -- 68, R201
  | ld_L_C  -- 69, R201
  | ld_L_D  -- 6A, R201
  | ld_L_E  -- 6B, R201
  | ld_L_H  -- 6C, R201
  | ld_L_L  -- 6D, R201
  | ld_L_MemHL  -- 6E, R203
  | ld_L_A  -- 6F, R201
  | ld_MemHL_B  -- 70, R204
  | ld_MemHL_C  -- 71, R204
  | ld_MemHL_D  -- 72, R204
  | ld_MemHL_E  -- 73, R204
  | ld_MemHL_H  -- 74, R204
  | ld_MemHL_L  -- 75, R204
  | halt  -- 76, R331
  | ld_MemHL_A  -- 77, R204
  | ld_A_B  -- 78, R201
  | ld_A_C  -- 79, R201
  | ld_A_D  -- 7A, R201
  | ld_A_E  -- 7B, R201
  | ld_A_H  -- 7C, R201
  | ld_A_L  -- 7D, R201
  | ld_A_MemHL  -- 7E, R203
  | ld_A_A  -- 7F, R201
  | add_A_B  -- 80, R251
  | add_A_C  -- 81, R251
  | add_A_D  -- 82, R251
  | add_A_E  -- 83, R251
  | add_A_H  -- 84, R251
  | add_A_L  -- 85, R251
  | add_A_MemHL  -- 86, R251
  | add_A_A  -- 87, R251
  | adc_A_B  -- 88, R252
  | adc_A_C  -- 89, R252
  | adc_A_D  -- 8A, R252
  | adc_A_E  -- 8B, R252
  | adc_A_H  -- 8C, R252
  | adc_A_L  -- 8D, R252
  | adc_A_MemHL  -- 8E, R252
  | adc_A_A  -- 8F, R252
  | sub_A_B  -- 90, R253
  | sub_A_C  -- 91, R253
  | sub_A_D  -- 92, R253
  | sub_A_E  -- 93, R253
  | sub_A_H  -- 94, R253
  | sub_A_L  -- 95, R253
  | sub_A_MemHL  -- 96, R253
  | sub_A_A  -- 97, R253
  | sbc_A_B  -- 98, R254
  | sbc_A_C  -- 99, R254
  | sbc_A_D  -- 9A, R254
  | sbc_A_E  -- 9B, R254
  | sbc_A_H  -- 9C, R254
  | sbc_A_L  -- 9D, R254
  | sbc_A_MemHL  -- 9E, R254
  | sbc_A_A  -- 9F, R254
  | and_A_B  -- A0, R255
  | and_A_C  -- A1, R255
  | and_A_D  -- A2, R255
  | and_A_E  -- A3, R255
  | and_A_H  -- A4, R255
  | and_A_L  -- A5, R255
  | and_A_MemHL  -- A6, R255
  | and_A_A  -- A7, R255
  | xor_A_B  -- A8, R256
  | xor_A_C  -- A9, R256
  | xor_A_D  -- AA, R256
  | xor_A_E  -- AB, R256
  | xor_A_H  -- AC, R256
  | xor_A_L  -- AD, R256
  | xor_A_MemHL  -- AE, R256
  | xor_A_A  -- AF, R256
  | or_A_B  -- B0, R257
  | or_A_C  -- B1, R257
  | or_A_D  -- B2, R257
  | or_A_E  -- B3, R257
  | or_A_H  -- B4, R257
  | or_A_L  -- B5, R257
  | or_A_MemHL  -- B6, R257
  | or_A_A  -- B7, R257
  | cp_A_B  -- B8, R258
  | cp_A_C  -- B9, R258
  | cp_A_D  -- BA, R258
  | cp_A_E  -- BB, R258
  | cp_A_H  -- BC, R258
  | cp_A_L  -- BD, R258
  | cp_A_MemHL  -- BE, R258
  | cp_A_A  -- BF, R258
  | ret_NZ  -- C0, R319
  | pop_BC  -- C1, R234
  | push_BC  -- C5, R233
  | rst_00  -- C7, R321
  | ret_Z  -- C8, R319
  | ret  -- C9, R318
  | cbPrefix  -- CB, R336
  | rst_08  -- CF, R321
  | ret_NC  -- D0, R319
  | pop_DE  -- D1, R234
  | unused_D3  -- D3, R335
  | push_DE  -- D5, R233
  | rst_10  -- D7, R321
  | ret_C  -- D8, R319
  | reti  -- D9, R320
  | unused_DB  -- DB, R335
  | unused_DD  -- DD, R335
  | rst_18  -- DF, R321
  | pop_HL  -- E1, R234
  | ld_MemC_A  -- E2, R217
  | unused_E3  -- E3, R335
  | unused_E4  -- E4, R335
  | push_HL  -- E5, R233
  | rst_20  -- E7, R321
  | jp_HL  -- E9, R313
  | unused_EB  -- EB, R335
  | unused_EC  -- EC, R335
  | unused_ED  -- ED, R335
  | rst_28  -- EF, R321
  | pop_AF  -- F1, R235
  | ld_A_MemC  -- F2, R216
  | di  -- F3, R333
  | unused_F4  -- F4, R335
  | push_AF  -- F5, R233
  | rst_30  -- F7, R321
  | ld_SP_HL  -- F9, R232
  | ei  -- FB, R334
  | unused_FC  -- FC, R335
  | unused_FD  -- FD, R335
  | rst_38  -- FF, R321
  | rlc_B  -- CB 00, R295
  | rlc_C  -- CB 01, R295
  | rlc_D  -- CB 02, R295
  | rlc_E  -- CB 03, R295
  | rlc_H  -- CB 04, R295
  | rlc_L  -- CB 05, R295
  | rlc_MemHL  -- CB 06, R295
  | rlc_A  -- CB 07, R295
  | rrc_B  -- CB 08, R296
  | rrc_C  -- CB 09, R296
  | rrc_D  -- CB 0A, R296
  | rrc_E  -- CB 0B, R296
  | rrc_H  -- CB 0C, R296
  | rrc_L  -- CB 0D, R296
  | rrc_MemHL  -- CB 0E, R296
  | rrc_A  -- CB 0F, R296
  | rl_B  -- CB 10, R297
  | rl_C  -- CB 11, R297
  | rl_D  -- CB 12, R297
  | rl_E  -- CB 13, R297
  | rl_H  -- CB 14, R297
  | rl_L  -- CB 15, R297
  | rl_MemHL  -- CB 16, R297
  | rl_A  -- CB 17, R297
  | rr_B  -- CB 18, R298
  | rr_C  -- CB 19, R298
  | rr_D  -- CB 1A, R298
  | rr_E  -- CB 1B, R298
  | rr_H  -- CB 1C, R298
  | rr_L  -- CB 1D, R298
  | rr_MemHL  -- CB 1E, R298
  | rr_A  -- CB 1F, R298
  | sla_B  -- CB 20, R299
  | sla_C  -- CB 21, R299
  | sla_D  -- CB 22, R299
  | sla_E  -- CB 23, R299
  | sla_H  -- CB 24, R299
  | sla_L  -- CB 25, R299
  | sla_MemHL  -- CB 26, R299
  | sla_A  -- CB 27, R299
  | sra_B  -- CB 28, R300
  | sra_C  -- CB 29, R300
  | sra_D  -- CB 2A, R300
  | sra_E  -- CB 2B, R300
  | sra_H  -- CB 2C, R300
  | sra_L  -- CB 2D, R300
  | sra_MemHL  -- CB 2E, R300
  | sra_A  -- CB 2F, R300
  | swap_B  -- CB 30, R301
  | swap_C  -- CB 31, R301
  | swap_D  -- CB 32, R301
  | swap_E  -- CB 33, R301
  | swap_H  -- CB 34, R301
  | swap_L  -- CB 35, R301
  | swap_MemHL  -- CB 36, R301
  | swap_A  -- CB 37, R301
  | srl_B  -- CB 38, R302
  | srl_C  -- CB 39, R302
  | srl_D  -- CB 3A, R302
  | srl_E  -- CB 3B, R302
  | srl_H  -- CB 3C, R302
  | srl_L  -- CB 3D, R302
  | srl_MemHL  -- CB 3E, R302
  | srl_A  -- CB 3F, R302
  | bit_0_B  -- CB 40, R303
  | bit_0_C  -- CB 41, R303
  | bit_0_D  -- CB 42, R303
  | bit_0_E  -- CB 43, R303
  | bit_0_H  -- CB 44, R303
  | bit_0_L  -- CB 45, R303
  | bit_0_MemHL  -- CB 46, R303
  | bit_0_A  -- CB 47, R303
  | bit_1_B  -- CB 48, R303
  | bit_1_C  -- CB 49, R303
  | bit_1_D  -- CB 4A, R303
  | bit_1_E  -- CB 4B, R303
  | bit_1_H  -- CB 4C, R303
  | bit_1_L  -- CB 4D, R303
  | bit_1_MemHL  -- CB 4E, R303
  | bit_1_A  -- CB 4F, R303
  | bit_2_B  -- CB 50, R303
  | bit_2_C  -- CB 51, R303
  | bit_2_D  -- CB 52, R303
  | bit_2_E  -- CB 53, R303
  | bit_2_H  -- CB 54, R303
  | bit_2_L  -- CB 55, R303
  | bit_2_MemHL  -- CB 56, R303
  | bit_2_A  -- CB 57, R303
  | bit_3_B  -- CB 58, R303
  | bit_3_C  -- CB 59, R303
  | bit_3_D  -- CB 5A, R303
  | bit_3_E  -- CB 5B, R303
  | bit_3_H  -- CB 5C, R303
  | bit_3_L  -- CB 5D, R303
  | bit_3_MemHL  -- CB 5E, R303
  | bit_3_A  -- CB 5F, R303
  | bit_4_B  -- CB 60, R303
  | bit_4_C  -- CB 61, R303
  | bit_4_D  -- CB 62, R303
  | bit_4_E  -- CB 63, R303
  | bit_4_H  -- CB 64, R303
  | bit_4_L  -- CB 65, R303
  | bit_4_MemHL  -- CB 66, R303
  | bit_4_A  -- CB 67, R303
  | bit_5_B  -- CB 68, R303
  | bit_5_C  -- CB 69, R303
  | bit_5_D  -- CB 6A, R303
  | bit_5_E  -- CB 6B, R303
  | bit_5_H  -- CB 6C, R303
  | bit_5_L  -- CB 6D, R303
  | bit_5_MemHL  -- CB 6E, R303
  | bit_5_A  -- CB 6F, R303
  | bit_6_B  -- CB 70, R303
  | bit_6_C  -- CB 71, R303
  | bit_6_D  -- CB 72, R303
  | bit_6_E  -- CB 73, R303
  | bit_6_H  -- CB 74, R303
  | bit_6_L  -- CB 75, R303
  | bit_6_MemHL  -- CB 76, R303
  | bit_6_A  -- CB 77, R303
  | bit_7_B  -- CB 78, R303
  | bit_7_C  -- CB 79, R303
  | bit_7_D  -- CB 7A, R303
  | bit_7_E  -- CB 7B, R303
  | bit_7_H  -- CB 7C, R303
  | bit_7_L  -- CB 7D, R303
  | bit_7_MemHL  -- CB 7E, R303
  | bit_7_A  -- CB 7F, R303
  | res_0_B  -- CB 80, R304
  | res_0_C  -- CB 81, R304
  | res_0_D  -- CB 82, R304
  | res_0_E  -- CB 83, R304
  | res_0_H  -- CB 84, R304
  | res_0_L  -- CB 85, R304
  | res_0_MemHL  -- CB 86, R304
  | res_0_A  -- CB 87, R304
  | res_1_B  -- CB 88, R304
  | res_1_C  -- CB 89, R304
  | res_1_D  -- CB 8A, R304
  | res_1_E  -- CB 8B, R304
  | res_1_H  -- CB 8C, R304
  | res_1_L  -- CB 8D, R304
  | res_1_MemHL  -- CB 8E, R304
  | res_1_A  -- CB 8F, R304
  | res_2_B  -- CB 90, R304
  | res_2_C  -- CB 91, R304
  | res_2_D  -- CB 92, R304
  | res_2_E  -- CB 93, R304
  | res_2_H  -- CB 94, R304
  | res_2_L  -- CB 95, R304
  | res_2_MemHL  -- CB 96, R304
  | res_2_A  -- CB 97, R304
  | res_3_B  -- CB 98, R304
  | res_3_C  -- CB 99, R304
  | res_3_D  -- CB 9A, R304
  | res_3_E  -- CB 9B, R304
  | res_3_H  -- CB 9C, R304
  | res_3_L  -- CB 9D, R304
  | res_3_MemHL  -- CB 9E, R304
  | res_3_A  -- CB 9F, R304
  | res_4_B  -- CB A0, R304
  | res_4_C  -- CB A1, R304
  | res_4_D  -- CB A2, R304
  | res_4_E  -- CB A3, R304
  | res_4_H  -- CB A4, R304
  | res_4_L  -- CB A5, R304
  | res_4_MemHL  -- CB A6, R304
  | res_4_A  -- CB A7, R304
  | res_5_B  -- CB A8, R304
  | res_5_C  -- CB A9, R304
  | res_5_D  -- CB AA, R304
  | res_5_E  -- CB AB, R304
  | res_5_H  -- CB AC, R304
  | res_5_L  -- CB AD, R304
  | res_5_MemHL  -- CB AE, R304
  | res_5_A  -- CB AF, R304
  | res_6_B  -- CB B0, R304
  | res_6_C  -- CB B1, R304
  | res_6_D  -- CB B2, R304
  | res_6_E  -- CB B3, R304
  | res_6_H  -- CB B4, R304
  | res_6_L  -- CB B5, R304
  | res_6_MemHL  -- CB B6, R304
  | res_6_A  -- CB B7, R304
  | res_7_B  -- CB B8, R304
  | res_7_C  -- CB B9, R304
  | res_7_D  -- CB BA, R304
  | res_7_E  -- CB BB, R304
  | res_7_H  -- CB BC, R304
  | res_7_L  -- CB BD, R304
  | res_7_MemHL  -- CB BE, R304
  | res_7_A  -- CB BF, R304
  | set_0_B  -- CB C0, R305
  | set_0_C  -- CB C1, R305
  | set_0_D  -- CB C2, R305
  | set_0_E  -- CB C3, R305
  | set_0_H  -- CB C4, R305
  | set_0_L  -- CB C5, R305
  | set_0_MemHL  -- CB C6, R305
  | set_0_A  -- CB C7, R305
  | set_1_B  -- CB C8, R305
  | set_1_C  -- CB C9, R305
  | set_1_D  -- CB CA, R305
  | set_1_E  -- CB CB, R305
  | set_1_H  -- CB CC, R305
  | set_1_L  -- CB CD, R305
  | set_1_MemHL  -- CB CE, R305
  | set_1_A  -- CB CF, R305
  | set_2_B  -- CB D0, R305
  | set_2_C  -- CB D1, R305
  | set_2_D  -- CB D2, R305
  | set_2_E  -- CB D3, R305
  | set_2_H  -- CB D4, R305
  | set_2_L  -- CB D5, R305
  | set_2_MemHL  -- CB D6, R305
  | set_2_A  -- CB D7, R305
  | set_3_B  -- CB D8, R305
  | set_3_C  -- CB D9, R305
  | set_3_D  -- CB DA, R305
  | set_3_E  -- CB DB, R305
  | set_3_H  -- CB DC, R305
  | set_3_L  -- CB DD, R305
  | set_3_MemHL  -- CB DE, R305
  | set_3_A  -- CB DF, R305
  | set_4_B  -- CB E0, R305
  | set_4_C  -- CB E1, R305
  | set_4_D  -- CB E2, R305
  | set_4_E  -- CB E3, R305
  | set_4_H  -- CB E4, R305
  | set_4_L  -- CB E5, R305
  | set_4_MemHL  -- CB E6, R305
  | set_4_A  -- CB E7, R305
  | set_5_B  -- CB E8, R305
  | set_5_C  -- CB E9, R305
  | set_5_D  -- CB EA, R305
  | set_5_E  -- CB EB, R305
  | set_5_H  -- CB EC, R305
  | set_5_L  -- CB ED, R305
  | set_5_MemHL  -- CB EE, R305
  | set_5_A  -- CB EF, R305
  | set_6_B  -- CB F0, R305
  | set_6_C  -- CB F1, R305
  | set_6_D  -- CB F2, R305
  | set_6_E  -- CB F3, R305
  | set_6_H  -- CB F4, R305
  | set_6_L  -- CB F5, R305
  | set_6_MemHL  -- CB F6, R305
  | set_6_A  -- CB F7, R305
  | set_7_B  -- CB F8, R305
  | set_7_C  -- CB F9, R305
  | set_7_D  -- CB FA, R305
  | set_7_E  -- CB FB, R305
  | set_7_H  -- CB FC, R305
  | set_7_L  -- CB FD, R305
  | set_7_MemHL  -- CB FE, R305
  | set_7_A  -- CB FF, R305
  deriving DecidableEq, Repr

end Sys2Proof
end

