-- ==== Sys2Proof/WellFormed.lean ====
section
/-! DEFINITION. Which instruction terms are instructions. Every field has exactly the width its encoding gives it, so the one
check is that the row of the CB prefix is not an instruction (30_encoding.md R140, R144; 46_system.md R336). -/

namespace Sys2Proof

/-- Every row but the CB prefix is an instruction. -/
def wellFormed : Instr → Bool
  | .cbPrefix => false
  | _ => true

end Sys2Proof
end

