-- ==== Sys2Proof/Decode.lean ====
section
/-! DEFINITION. Decoding and encoding (30_encoding.md R140-R153). Decode indexes a 512-entry table by the opcode byte, or by
the byte after the CB prefix (R144, R145); it is total on every byte, and refuses by name only a text that ends too early. -/

namespace Sys2Proof

/-- One entry of the unprefixed table, by the format of its operands (30 R140). -/
inductive Entry where
  /-- Format `op8`: the opcode byte alone. -/
  | op (i : Instr)
  /-- Formats `op8_d8`, `op8_a8`, `op8_e8`, `op8_x8`: one more byte. -/
  | imm8 (f : Byte → Instr)
  /-- Format `op8_d16`: two more bytes, low then high. -/
  | imm16 (f : Word → Instr)
  /-- The CB prefix: the next byte selects in the CB table (30 R144). -/
  | cb


/-- Unprefixed opcodes 0x00-0x0F. -/
def baseRow0 : List Entry :=
  [.op .nop, .imm16 .ld_BC_n16, .op .ld_MemBC_A, .op .inc_BC, .op .inc_B, .op .dec_B, .imm8 .ld_B_n8, .op .rlca, .imm16 .ld_MemA16_SP, .op .add_HL_BC, .op .ld_A_MemBC, .op .dec_BC, .op .inc_C, .op .dec_C, .imm8 .ld_C_n8, .op .rrca]

/-- Unprefixed opcodes 0x10-0x1F. -/
def baseRow1 : List Entry :=
  [.imm8 .stop, .imm16 .ld_DE_n16, .op .ld_MemDE_A, .op .inc_DE, .op .inc_D, .op .dec_D, .imm8 .ld_D_n8, .op .rla, .imm8 .jr_e8, .op .add_HL_DE, .op .ld_A_MemDE, .op .dec_DE, .op .inc_E, .op .dec_E, .imm8 .ld_E_n8, .op .rra]

/-- Unprefixed opcodes 0x20-0x2F. -/
def baseRow2 : List Entry :=
  [.imm8 .jr_NZ_e8, .imm16 .ld_HL_n16, .op .ld_MemHLInc_A, .op .inc_HL, .op .inc_H, .op .dec_H, .imm8 .ld_H_n8, .op .daa, .imm8 .jr_Z_e8, .op .add_HL_HL, .op .ld_A_MemHLInc, .op .dec_HL, .op .inc_L, .op .dec_L, .imm8 .ld_L_n8, .op .cpl]

/-- Unprefixed opcodes 0x30-0x3F. -/
def baseRow3 : List Entry :=
  [.imm8 .jr_NC_e8, .imm16 .ld_SP_n16, .op .ld_MemHLDec_A, .op .inc_SP, .op .inc_MemHL, .op .dec_MemHL, .imm8 .ld_MemHL_n8, .op .scf, .imm8 .jr_C_e8, .op .add_HL_SP, .op .ld_A_MemHLDec, .op .dec_SP, .op .inc_A, .op .dec_A, .imm8 .ld_A_n8, .op .ccf]

/-- Unprefixed opcodes 0x40-0x4F. -/
def baseRow4 : List Entry :=
  [.op .ld_B_B, .op .ld_B_C, .op .ld_B_D, .op .ld_B_E, .op .ld_B_H, .op .ld_B_L, .op .ld_B_MemHL, .op .ld_B_A, .op .ld_C_B, .op .ld_C_C, .op .ld_C_D, .op .ld_C_E, .op .ld_C_H, .op .ld_C_L, .op .ld_C_MemHL, .op .ld_C_A]

/-- Unprefixed opcodes 0x50-0x5F. -/
def baseRow5 : List Entry :=
  [.op .ld_D_B, .op .ld_D_C, .op .ld_D_D, .op .ld_D_E, .op .ld_D_H, .op .ld_D_L, .op .ld_D_MemHL, .op .ld_D_A, .op .ld_E_B, .op .ld_E_C, .op .ld_E_D, .op .ld_E_E, .op .ld_E_H, .op .ld_E_L, .op .ld_E_MemHL, .op .ld_E_A]

/-- Unprefixed opcodes 0x60-0x6F. -/
def baseRow6 : List Entry :=
  [.op .ld_H_B, .op .ld_H_C, .op .ld_H_D, .op .ld_H_E, .op .ld_H_H, .op .ld_H_L, .op .ld_H_MemHL, .op .ld_H_A, .op .ld_L_B, .op .ld_L_C, .op .ld_L_D, .op .ld_L_E, .op .ld_L_H, .op .ld_L_L, .op .ld_L_MemHL, .op .ld_L_A]

/-- Unprefixed opcodes 0x70-0x7F. -/
def baseRow7 : List Entry :=
  [.op .ld_MemHL_B, .op .ld_MemHL_C, .op .ld_MemHL_D, .op .ld_MemHL_E, .op .ld_MemHL_H, .op .ld_MemHL_L, .op .halt, .op .ld_MemHL_A, .op .ld_A_B, .op .ld_A_C, .op .ld_A_D, .op .ld_A_E, .op .ld_A_H, .op .ld_A_L, .op .ld_A_MemHL, .op .ld_A_A]

/-- Unprefixed opcodes 0x80-0x8F. -/
def baseRow8 : List Entry :=
  [.op .add_A_B, .op .add_A_C, .op .add_A_D, .op .add_A_E, .op .add_A_H, .op .add_A_L, .op .add_A_MemHL, .op .add_A_A, .op .adc_A_B, .op .adc_A_C, .op .adc_A_D, .op .adc_A_E, .op .adc_A_H, .op .adc_A_L, .op .adc_A_MemHL, .op .adc_A_A]

/-- Unprefixed opcodes 0x90-0x9F. -/
def baseRow9 : List Entry :=
  [.op .sub_A_B, .op .sub_A_C, .op .sub_A_D, .op .sub_A_E, .op .sub_A_H, .op .sub_A_L, .op .sub_A_MemHL, .op .sub_A_A, .op .sbc_A_B, .op .sbc_A_C, .op .sbc_A_D, .op .sbc_A_E, .op .sbc_A_H, .op .sbc_A_L, .op .sbc_A_MemHL, .op .sbc_A_A]

/-- Unprefixed opcodes 0xA0-0xAF. -/
def baseRowA : List Entry :=
  [.op .and_A_B, .op .and_A_C, .op .and_A_D, .op .and_A_E, .op .and_A_H, .op .and_A_L, .op .and_A_MemHL, .op .and_A_A, .op .xor_A_B, .op .xor_A_C, .op .xor_A_D, .op .xor_A_E, .op .xor_A_H, .op .xor_A_L, .op .xor_A_MemHL, .op .xor_A_A]

/-- Unprefixed opcodes 0xB0-0xBF. -/
def baseRowB : List Entry :=
  [.op .or_A_B, .op .or_A_C, .op .or_A_D, .op .or_A_E, .op .or_A_H, .op .or_A_L, .op .or_A_MemHL, .op .or_A_A, .op .cp_A_B, .op .cp_A_C, .op .cp_A_D, .op .cp_A_E, .op .cp_A_H, .op .cp_A_L, .op .cp_A_MemHL, .op .cp_A_A]

/-- Unprefixed opcodes 0xC0-0xCF. -/
def baseRowC : List Entry :=
  [.op .ret_NZ, .op .pop_BC, .imm16 .jp_NZ_a16, .imm16 .jp_a16, .imm16 .call_NZ_a16, .op .push_BC, .imm8 .add_A_n8, .op .rst_00, .op .ret_Z, .op .ret, .imm16 .jp_Z_a16, .cb, .imm16 .call_Z_a16, .imm16 .call_a16, .imm8 .adc_A_n8, .op .rst_08]

/-- Unprefixed opcodes 0xD0-0xDF. -/
def baseRowD : List Entry :=
  [.op .ret_NC, .op .pop_DE, .imm16 .jp_NC_a16, .op .unused_D3, .imm16 .call_NC_a16, .op .push_DE, .imm8 .sub_A_n8, .op .rst_10, .op .ret_C, .op .reti, .imm16 .jp_C_a16, .op .unused_DB, .imm16 .call_C_a16, .op .unused_DD, .imm8 .sbc_A_n8, .op .rst_18]

/-- Unprefixed opcodes 0xE0-0xEF. -/
def baseRowE : List Entry :=
  [.imm8 .ldh_MemA8_A, .op .pop_HL, .op .ld_MemC_A, .op .unused_E3, .op .unused_E4, .op .push_HL, .imm8 .and_A_n8, .op .rst_20, .imm8 .add_SP_e8, .op .jp_HL, .imm16 .ld_MemA16_A, .op .unused_EB, .op .unused_EC, .op .unused_ED, .imm8 .xor_A_n8, .op .rst_28]

/-- Unprefixed opcodes 0xF0-0xFF. -/
def baseRowF : List Entry :=
  [.imm8 .ldh_A_MemA8, .op .pop_AF, .op .ld_A_MemC, .op .di, .op .unused_F4, .op .push_AF, .imm8 .or_A_n8, .op .rst_30, .imm8 .ld_HL_SPe8, .op .ld_SP_HL, .imm16 .ld_A_MemA16, .op .ei, .op .unused_FC, .op .unused_FD, .imm8 .cp_A_n8, .op .rst_38]

/-- The unprefixed table `BASE[o]` (30 R145). -/
def baseTable : List Entry :=
  baseRow0 ++ baseRow1 ++ baseRow2 ++ baseRow3 ++ baseRow4 ++ baseRow5 ++ baseRow6 ++ baseRow7 ++ baseRow8 ++ baseRow9 ++ baseRowA ++ baseRowB ++ baseRowC ++ baseRowD ++ baseRowE ++ baseRowF

/-- CB sub-opcodes 0x00-0x0F. -/
def cbRow0 : List Instr :=
  [.rlc_B, .rlc_C, .rlc_D, .rlc_E, .rlc_H, .rlc_L, .rlc_MemHL, .rlc_A, .rrc_B, .rrc_C, .rrc_D, .rrc_E, .rrc_H, .rrc_L, .rrc_MemHL, .rrc_A]

/-- CB sub-opcodes 0x10-0x1F. -/
def cbRow1 : List Instr :=
  [.rl_B, .rl_C, .rl_D, .rl_E, .rl_H, .rl_L, .rl_MemHL, .rl_A, .rr_B, .rr_C, .rr_D, .rr_E, .rr_H, .rr_L, .rr_MemHL, .rr_A]

/-- CB sub-opcodes 0x20-0x2F. -/
def cbRow2 : List Instr :=
  [.sla_B, .sla_C, .sla_D, .sla_E, .sla_H, .sla_L, .sla_MemHL, .sla_A, .sra_B, .sra_C, .sra_D, .sra_E, .sra_H, .sra_L, .sra_MemHL, .sra_A]

/-- CB sub-opcodes 0x30-0x3F. -/
def cbRow3 : List Instr :=
  [.swap_B, .swap_C, .swap_D, .swap_E, .swap_H, .swap_L, .swap_MemHL, .swap_A, .srl_B, .srl_C, .srl_D, .srl_E, .srl_H, .srl_L, .srl_MemHL, .srl_A]

/-- CB sub-opcodes 0x40-0x4F. -/
def cbRow4 : List Instr :=
  [.bit_0_B, .bit_0_C, .bit_0_D, .bit_0_E, .bit_0_H, .bit_0_L, .bit_0_MemHL, .bit_0_A, .bit_1_B, .bit_1_C, .bit_1_D, .bit_1_E, .bit_1_H, .bit_1_L, .bit_1_MemHL, .bit_1_A]

/-- CB sub-opcodes 0x50-0x5F. -/
def cbRow5 : List Instr :=
  [.bit_2_B, .bit_2_C, .bit_2_D, .bit_2_E, .bit_2_H, .bit_2_L, .bit_2_MemHL, .bit_2_A, .bit_3_B, .bit_3_C, .bit_3_D, .bit_3_E, .bit_3_H, .bit_3_L, .bit_3_MemHL, .bit_3_A]

/-- CB sub-opcodes 0x60-0x6F. -/
def cbRow6 : List Instr :=
  [.bit_4_B, .bit_4_C, .bit_4_D, .bit_4_E, .bit_4_H, .bit_4_L, .bit_4_MemHL, .bit_4_A, .bit_5_B, .bit_5_C, .bit_5_D, .bit_5_E, .bit_5_H, .bit_5_L, .bit_5_MemHL, .bit_5_A]

/-- CB sub-opcodes 0x70-0x7F. -/
def cbRow7 : List Instr :=
  [.bit_6_B, .bit_6_C, .bit_6_D, .bit_6_E, .bit_6_H, .bit_6_L, .bit_6_MemHL, .bit_6_A, .bit_7_B, .bit_7_C, .bit_7_D, .bit_7_E, .bit_7_H, .bit_7_L, .bit_7_MemHL, .bit_7_A]

/-- CB sub-opcodes 0x80-0x8F. -/
def cbRow8 : List Instr :=
  [.res_0_B, .res_0_C, .res_0_D, .res_0_E, .res_0_H, .res_0_L, .res_0_MemHL, .res_0_A, .res_1_B, .res_1_C, .res_1_D, .res_1_E, .res_1_H, .res_1_L, .res_1_MemHL, .res_1_A]

/-- CB sub-opcodes 0x90-0x9F. -/
def cbRow9 : List Instr :=
  [.res_2_B, .res_2_C, .res_2_D, .res_2_E, .res_2_H, .res_2_L, .res_2_MemHL, .res_2_A, .res_3_B, .res_3_C, .res_3_D, .res_3_E, .res_3_H, .res_3_L, .res_3_MemHL, .res_3_A]

/-- CB sub-opcodes 0xA0-0xAF. -/
def cbRowA : List Instr :=
  [.res_4_B, .res_4_C, .res_4_D, .res_4_E, .res_4_H, .res_4_L, .res_4_MemHL, .res_4_A, .res_5_B, .res_5_C, .res_5_D, .res_5_E, .res_5_H, .res_5_L, .res_5_MemHL, .res_5_A]

/-- CB sub-opcodes 0xB0-0xBF. -/
def cbRowB : List Instr :=
  [.res_6_B, .res_6_C, .res_6_D, .res_6_E, .res_6_H, .res_6_L, .res_6_MemHL, .res_6_A, .res_7_B, .res_7_C, .res_7_D, .res_7_E, .res_7_H, .res_7_L, .res_7_MemHL, .res_7_A]

/-- CB sub-opcodes 0xC0-0xCF. -/
def cbRowC : List Instr :=
  [.set_0_B, .set_0_C, .set_0_D, .set_0_E, .set_0_H, .set_0_L, .set_0_MemHL, .set_0_A, .set_1_B, .set_1_C, .set_1_D, .set_1_E, .set_1_H, .set_1_L, .set_1_MemHL, .set_1_A]

/-- CB sub-opcodes 0xD0-0xDF. -/
def cbRowD : List Instr :=
  [.set_2_B, .set_2_C, .set_2_D, .set_2_E, .set_2_H, .set_2_L, .set_2_MemHL, .set_2_A, .set_3_B, .set_3_C, .set_3_D, .set_3_E, .set_3_H, .set_3_L, .set_3_MemHL, .set_3_A]

/-- CB sub-opcodes 0xE0-0xEF. -/
def cbRowE : List Instr :=
  [.set_4_B, .set_4_C, .set_4_D, .set_4_E, .set_4_H, .set_4_L, .set_4_MemHL, .set_4_A, .set_5_B, .set_5_C, .set_5_D, .set_5_E, .set_5_H, .set_5_L, .set_5_MemHL, .set_5_A]

/-- CB sub-opcodes 0xF0-0xFF. -/
def cbRowF : List Instr :=
  [.set_6_B, .set_6_C, .set_6_D, .set_6_E, .set_6_H, .set_6_L, .set_6_MemHL, .set_6_A, .set_7_B, .set_7_C, .set_7_D, .set_7_E, .set_7_H, .set_7_L, .set_7_MemHL, .set_7_A]

/-- The CB-prefixed table `CB[s]` (30 R145). -/
def cbTable : List Instr :=
  cbRow0 ++ cbRow1 ++ cbRow2 ++ cbRow3 ++ cbRow4 ++ cbRow5 ++ cbRow6 ++ cbRow7 ++ cbRow8 ++ cbRow9 ++ cbRowA ++ cbRowB ++ cbRowC ++ cbRowD ++ cbRowE ++ cbRowF

/-- The unprefixed table has an entry for every byte (30 R145). -/
theorem baseTable_length : baseTable.length = 256 := by decide +kernel

/-- The CB table has an entry for every byte (30 R145). -/
theorem cbTable_length : cbTable.length = 256 := by decide +kernel

/-- `BASE[o]`. -/
def baseEntry (o : Byte) : Entry := baseTable.get ⟨o.toNat, baseTable_length ▸ o.isLt⟩

/-- `CB[s]`. -/
def cbInstr (sub : Byte) : Instr := cbTable.get ⟨sub.toNat, cbTable_length ▸ sub.isLt⟩

/-- The instruction that starts at `b0`, and its length; `b1` and `b2` are the bytes after it, used as far as its format
takes them (30 R142, R144, R153). -/
def decodeWindow (b0 b1 b2 : Byte) : Instr × Nat :=
  match baseEntry b0 with
  | .op i => (i, 1)
  | .imm8 f => (f b1, 2)
  | .imm16 f => (f (joinBytes b2 b1), 3)
  | .cb => (cbInstr b1, 2)

/-- Why a list of bytes is no instruction. -/
inductive DecodeError where
  /-- There is no byte. -/
  | noOpcode
  /-- The bytes end inside the instruction. -/
  | truncated
  deriving DecidableEq, Repr

/-- The instruction at the head of a list of bytes, and the rest of the list. -/
def decode (bs : List Byte) : Except DecodeError (Instr × List Byte) :=
  match bs with
  | [] => .error .noOpcode
  | b0 :: rest =>
    let (i, len) := decodeWindow b0 (rest.getD 0 0) (rest.getD 1 0)
    if bs.length < len then .error .truncated else .ok (i, bs.drop len)


/-- The base cycle counts of the unprefixed table, in clock ticks (30 R145, R148; 70 R462). -/
def baseCycles : List Nat :=
  [4, 12, 8, 8, 4, 4, 8, 4, 20, 8, 8, 8, 4, 4, 8, 4,
   4, 12, 8, 8, 4, 4, 8, 4, 12, 8, 8, 8, 4, 4, 8, 4,
   8, 12, 8, 8, 4, 4, 8, 4, 8, 8, 8, 8, 4, 4, 8, 4,
   8, 12, 8, 8, 12, 12, 12, 4, 8, 8, 8, 8, 4, 4, 8, 4,
   4, 4, 4, 4, 4, 4, 8, 4, 4, 4, 4, 4, 4, 4, 8, 4,
   4, 4, 4, 4, 4, 4, 8, 4, 4, 4, 4, 4, 4, 4, 8, 4,
   4, 4, 4, 4, 4, 4, 8, 4, 4, 4, 4, 4, 4, 4, 8, 4,
   8, 8, 8, 8, 8, 8, 4, 8, 4, 4, 4, 4, 4, 4, 8, 4,
   4, 4, 4, 4, 4, 4, 8, 4, 4, 4, 4, 4, 4, 4, 8, 4,
   4, 4, 4, 4, 4, 4, 8, 4, 4, 4, 4, 4, 4, 4, 8, 4,
   4, 4, 4, 4, 4, 4, 8, 4, 4, 4, 4, 4, 4, 4, 8, 4,
   4, 4, 4, 4, 4, 4, 8, 4, 4, 4, 4, 4, 4, 4, 8, 4,
   8, 12, 12, 16, 12, 16, 8, 16, 8, 16, 12, 0, 12, 24, 8, 16,
   8, 12, 12, 4, 12, 16, 8, 16, 8, 16, 12, 4, 12, 4, 8, 16,
   12, 12, 8, 4, 4, 16, 8, 16, 16, 4, 16, 4, 4, 4, 8, 16,
   12, 12, 8, 4, 4, 16, 8, 16, 12, 8, 16, 4, 4, 4, 8, 16]

/-- The alternate (taken) counts; where the table gives none, the base count (30 R145, R148). -/
def takenCycles : List Nat :=
  [4, 12, 8, 8, 4, 4, 8, 4, 20, 8, 8, 8, 4, 4, 8, 4,
   4, 12, 8, 8, 4, 4, 8, 4, 12, 8, 8, 8, 4, 4, 8, 4,
   12, 12, 8, 8, 4, 4, 8, 4, 12, 8, 8, 8, 4, 4, 8, 4,
   12, 12, 8, 8, 12, 12, 12, 4, 12, 8, 8, 8, 4, 4, 8, 4,
   4, 4, 4, 4, 4, 4, 8, 4, 4, 4, 4, 4, 4, 4, 8, 4,
   4, 4, 4, 4, 4, 4, 8, 4, 4, 4, 4, 4, 4, 4, 8, 4,
   4, 4, 4, 4, 4, 4, 8, 4, 4, 4, 4, 4, 4, 4, 8, 4,
   8, 8, 8, 8, 8, 8, 4, 8, 4, 4, 4, 4, 4, 4, 8, 4,
   4, 4, 4, 4, 4, 4, 8, 4, 4, 4, 4, 4, 4, 4, 8, 4,
   4, 4, 4, 4, 4, 4, 8, 4, 4, 4, 4, 4, 4, 4, 8, 4,
   4, 4, 4, 4, 4, 4, 8, 4, 4, 4, 4, 4, 4, 4, 8, 4,
   4, 4, 4, 4, 4, 4, 8, 4, 4, 4, 4, 4, 4, 4, 8, 4,
   20, 12, 16, 16, 24, 16, 8, 16, 20, 16, 16, 0, 24, 24, 8, 16,
   20, 12, 16, 4, 24, 16, 8, 16, 20, 16, 16, 4, 24, 4, 8, 16,
   12, 12, 8, 4, 4, 16, 8, 16, 16, 4, 16, 4, 4, 4, 8, 16,
   12, 12, 8, 4, 4, 16, 8, 16, 12, 8, 16, 4, 4, 4, 8, 16]

/-- The cycle count of a CB sub-opcode, the prefix included: 8, for (HL) 16, for BIT b,(HL) 12 (44 R294). -/
def cbCycles (sub : Nat) : Nat :=
  if sub % 8 = 6 then (if 0x40 ≤ sub ∧ sub < 0x80 then 12 else 16) else 8


/-- The bytes of an instruction, in the order they are stored (30 R140, R142, R151, R152). -/
def encode : Instr → List Byte
  | .nop => [0x00]
  | .ld_BC_n16 nn => [0x01, loByte nn, hiByte nn]
  | .ld_MemBC_A => [0x02]
  | .inc_BC => [0x03]
  | .inc_B => [0x04]
  | .dec_B => [0x05]
  | .ld_B_n8 n => [0x06, n]
  | .rlca => [0x07]
  | .ld_MemA16_SP nn => [0x08, loByte nn, hiByte nn]
  | .add_HL_BC => [0x09]
  | .ld_A_MemBC => [0x0A]
  | .dec_BC => [0x0B]
  | .inc_C => [0x0C]
  | .dec_C => [0x0D]
  | .ld_C_n8 n => [0x0E, n]
  | .rrca => [0x0F]
  | .stop x => [0x10, x]
  | .ld_DE_n16 nn => [0x11, loByte nn, hiByte nn]
  | .ld_MemDE_A => [0x12]
  | .inc_DE => [0x13]
  | .inc_D => [0x14]
  | .dec_D => [0x15]
  | .ld_D_n8 n => [0x16, n]
  | .rla => [0x17]
  | .jr_e8 e => [0x18, e]
  | .add_HL_DE => [0x19]
  | .ld_A_MemDE => [0x1A]
  | .dec_DE => [0x1B]
  | .inc_E => [0x1C]
  | .dec_E => [0x1D]
  | .ld_E_n8 n => [0x1E, n]
  | .rra => [0x1F]
  | .jr_NZ_e8 e => [0x20, e]
  | .ld_HL_n16 nn => [0x21, loByte nn, hiByte nn]
  | .ld_MemHLInc_A => [0x22]
  | .inc_HL => [0x23]
  | .inc_H => [0x24]
  | .dec_H => [0x25]
  | .ld_H_n8 n => [0x26, n]
  | .daa => [0x27]
  | .jr_Z_e8 e => [0x28, e]
  | .add_HL_HL => [0x29]
  | .ld_A_MemHLInc => [0x2A]
  | .dec_HL => [0x2B]
  | .inc_L => [0x2C]
  | .dec_L => [0x2D]
  | .ld_L_n8 n => [0x2E, n]
  | .cpl => [0x2F]
  | .jr_NC_e8 e => [0x30, e]
  | .ld_SP_n16 nn => [0x31, loByte nn, hiByte nn]
  | .ld_MemHLDec_A => [0x32]
  | .inc_SP => [0x33]
  | .inc_MemHL => [0x34]
  | .dec_MemHL => [0x35]
  | .ld_MemHL_n8 n => [0x36, n]
  | .scf => [0x37]
  | .jr_C_e8 e => [0x38, e]
  | .add_HL_SP => [0x39]
  | .ld_A_MemHLDec => [0x3A]
  | .dec_SP => [0x3B]
  | .inc_A => [0x3C]
  | .dec_A => [0x3D]
  | .ld_A_n8 n => [0x3E, n]
  | .ccf => [0x3F]
  | .ld_B_B => [0x40]
  | .ld_B_C => [0x41]
  | .ld_B_D => [0x42]
  | .ld_B_E => [0x43]
  | .ld_B_H => [0x44]
  | .ld_B_L => [0x45]
  | .ld_B_MemHL => [0x46]
  | .ld_B_A => [0x47]
  | .ld_C_B => [0x48]
  | .ld_C_C => [0x49]
  | .ld_C_D => [0x4A]
  | .ld_C_E => [0x4B]
  | .ld_C_H => [0x4C]
  | .ld_C_L => [0x4D]
  | .ld_C_MemHL => [0x4E]
  | .ld_C_A => [0x4F]
  | .ld_D_B => [0x50]
  | .ld_D_C => [0x51]
  | .ld_D_D => [0x52]
  | .ld_D_E => [0x53]
  | .ld_D_H => [0x54]
  | .ld_D_L => [0x55]
  | .ld_D_MemHL => [0x56]
  | .ld_D_A => [0x57]
  | .ld_E_B => [0x58]
  | .ld_E_C => [0x59]
  | .ld_E_D => [0x5A]
  | .ld_E_E => [0x5B]
  | .ld_E_H => [0x5C]
  | .ld_E_L => [0x5D]
  | .ld_E_MemHL => [0x5E]
  | .ld_E_A => [0x5F]
  | .ld_H_B => [0x60]
  | .ld_H_C => [0x61]
  | .ld_H_D => [0x62]
  | .ld_H_E => [0x63]
  | .ld_H_H => [0x64]
  | .ld_H_L => [0x65]
  | .ld_H_MemHL => [0x66]
  | .ld_H_A => [0x67]
  | .ld_L_B => [0x68]
  | .ld_L_C => [0x69]
  | .ld_L_D => [0x6A]
  | .ld_L_E => [0x6B]
  | .ld_L_H => [0x6C]
  | .ld_L_L => [0x6D]
  | .ld_L_MemHL => [0x6E]
  | .ld_L_A => [0x6F]
  | .ld_MemHL_B => [0x70]
  | .ld_MemHL_C => [0x71]
  | .ld_MemHL_D => [0x72]
  | .ld_MemHL_E => [0x73]
  | .ld_MemHL_H => [0x74]
  | .ld_MemHL_L => [0x75]
  | .halt => [0x76]
  | .ld_MemHL_A => [0x77]
  | .ld_A_B => [0x78]
  | .ld_A_C => [0x79]
  | .ld_A_D => [0x7A]
  | .ld_A_E => [0x7B]
  | .ld_A_H => [0x7C]
  | .ld_A_L => [0x7D]
  | .ld_A_MemHL => [0x7E]
  | .ld_A_A => [0x7F]
  | .add_A_B => [0x80]
  | .add_A_C => [0x81]
  | .add_A_D => [0x82]
  | .add_A_E => [0x83]
  | .add_A_H => [0x84]
  | .add_A_L => [0x85]
  | .add_A_MemHL => [0x86]
  | .add_A_A => [0x87]
  | .adc_A_B => [0x88]
  | .adc_A_C => [0x89]
  | .adc_A_D => [0x8A]
  | .adc_A_E => [0x8B]
  | .adc_A_H => [0x8C]
  | .adc_A_L => [0x8D]
  | .adc_A_MemHL => [0x8E]
  | .adc_A_A => [0x8F]
  | .sub_A_B => [0x90]
  | .sub_A_C => [0x91]
  | .sub_A_D => [0x92]
  | .sub_A_E => [0x93]
  | .sub_A_H => [0x94]
  | .sub_A_L => [0x95]
  | .sub_A_MemHL => [0x96]
  | .sub_A_A => [0x97]
  | .sbc_A_B => [0x98]
  | .sbc_A_C => [0x99]
  | .sbc_A_D => [0x9A]
  | .sbc_A_E => [0x9B]
  | .sbc_A_H => [0x9C]
  | .sbc_A_L => [0x9D]
  | .sbc_A_MemHL => [0x9E]
  | .sbc_A_A => [0x9F]
  | .and_A_B => [0xA0]
  | .and_A_C => [0xA1]
  | .and_A_D => [0xA2]
  | .and_A_E => [0xA3]
  | .and_A_H => [0xA4]
  | .and_A_L => [0xA5]
  | .and_A_MemHL => [0xA6]
  | .and_A_A => [0xA7]
  | .xor_A_B => [0xA8]
  | .xor_A_C => [0xA9]
  | .xor_A_D => [0xAA]
  | .xor_A_E => [0xAB]
  | .xor_A_H => [0xAC]
  | .xor_A_L => [0xAD]
  | .xor_A_MemHL => [0xAE]
  | .xor_A_A => [0xAF]
  | .or_A_B => [0xB0]
  | .or_A_C => [0xB1]
  | .or_A_D => [0xB2]
  | .or_A_E => [0xB3]
  | .or_A_H => [0xB4]
  | .or_A_L => [0xB5]
  | .or_A_MemHL => [0xB6]
  | .or_A_A => [0xB7]
  | .cp_A_B => [0xB8]
  | .cp_A_C => [0xB9]
  | .cp_A_D => [0xBA]
  | .cp_A_E => [0xBB]
  | .cp_A_H => [0xBC]
  | .cp_A_L => [0xBD]
  | .cp_A_MemHL => [0xBE]
  | .cp_A_A => [0xBF]
  | .ret_NZ => [0xC0]
  | .pop_BC => [0xC1]
  | .jp_NZ_a16 nn => [0xC2, loByte nn, hiByte nn]
  | .jp_a16 nn => [0xC3, loByte nn, hiByte nn]
  | .call_NZ_a16 nn => [0xC4, loByte nn, hiByte nn]
  | .push_BC => [0xC5]
  | .add_A_n8 n => [0xC6, n]
  | .rst_00 => [0xC7]
  | .ret_Z => [0xC8]
  | .ret => [0xC9]
  | .jp_Z_a16 nn => [0xCA, loByte nn, hiByte nn]
  | .cbPrefix => [0xCB]
  | .call_Z_a16 nn => [0xCC, loByte nn, hiByte nn]
  | .call_a16 nn => [0xCD, loByte nn, hiByte nn]
  | .adc_A_n8 n => [0xCE, n]
  | .rst_08 => [0xCF]
  | .ret_NC => [0xD0]
  | .pop_DE => [0xD1]
  | .jp_NC_a16 nn => [0xD2, loByte nn, hiByte nn]
  | .unused_D3 => [0xD3]
  | .call_NC_a16 nn => [0xD4, loByte nn, hiByte nn]
  | .push_DE => [0xD5]
  | .sub_A_n8 n => [0xD6, n]
  | .rst_10 => [0xD7]
  | .ret_C => [0xD8]
  | .reti => [0xD9]
  | .jp_C_a16 nn => [0xDA, loByte nn, hiByte nn]
  | .unused_DB => [0xDB]
  | .call_C_a16 nn => [0xDC, loByte nn, hiByte nn]
  | .unused_DD => [0xDD]
  | .sbc_A_n8 n => [0xDE, n]
  | .rst_18 => [0xDF]
  | .ldh_MemA8_A a => [0xE0, a]
  | .pop_HL => [0xE1]
  | .ld_MemC_A => [0xE2]
  | .unused_E3 => [0xE3]
  | .unused_E4 => [0xE4]
  | .push_HL => [0xE5]
  | .and_A_n8 n => [0xE6, n]
  | .rst_20 => [0xE7]
  | .add_SP_e8 e => [0xE8, e]
  | .jp_HL => [0xE9]
  | .ld_MemA16_A nn => [0xEA, loByte nn, hiByte nn]
  | .unused_EB => [0xEB]
  | .unused_EC => [0xEC]
  | .unused_ED => [0xED]
  | .xor_A_n8 n => [0xEE, n]
  | .rst_28 => [0xEF]
  | .ldh_A_MemA8 a => [0xF0, a]
  | .pop_AF => [0xF1]
  | .ld_A_MemC => [0xF2]
  | .di => [0xF3]
  | .unused_F4 => [0xF4]
  | .push_AF => [0xF5]
  | .or_A_n8 n => [0xF6, n]
  | .rst_30 => [0xF7]
  | .ld_HL_SPe8 e => [0xF8, e]
  | .ld_SP_HL => [0xF9]
  | .ld_A_MemA16 nn => [0xFA, loByte nn, hiByte nn]
  | .ei => [0xFB]
  | .unused_FC => [0xFC]
  | .unused_FD => [0xFD]
  | .cp_A_n8 n => [0xFE, n]
  | .rst_38 => [0xFF]
  | .rlc_B => [0xCB, 0x00]
  | .rlc_C => [0xCB, 0x01]
  | .rlc_D => [0xCB, 0x02]
  | .rlc_E => [0xCB, 0x03]
  | .rlc_H => [0xCB, 0x04]
  | .rlc_L => [0xCB, 0x05]
  | .rlc_MemHL => [0xCB, 0x06]
  | .rlc_A => [0xCB, 0x07]
  | .rrc_B => [0xCB, 0x08]
  | .rrc_C => [0xCB, 0x09]
  | .rrc_D => [0xCB, 0x0A]
  | .rrc_E => [0xCB, 0x0B]
  | .rrc_H => [0xCB, 0x0C]
  | .rrc_L => [0xCB, 0x0D]
  | .rrc_MemHL => [0xCB, 0x0E]
  | .rrc_A => [0xCB, 0x0F]
  | .rl_B => [0xCB, 0x10]
  | .rl_C => [0xCB, 0x11]
  | .rl_D => [0xCB, 0x12]
  | .rl_E => [0xCB, 0x13]
  | .rl_H => [0xCB, 0x14]
  | .rl_L => [0xCB, 0x15]
  | .rl_MemHL => [0xCB, 0x16]
  | .rl_A => [0xCB, 0x17]
  | .rr_B => [0xCB, 0x18]
  | .rr_C => [0xCB, 0x19]
  | .rr_D => [0xCB, 0x1A]
  | .rr_E => [0xCB, 0x1B]
  | .rr_H => [0xCB, 0x1C]
  | .rr_L => [0xCB, 0x1D]
  | .rr_MemHL => [0xCB, 0x1E]
  | .rr_A => [0xCB, 0x1F]
  | .sla_B => [0xCB, 0x20]
  | .sla_C => [0xCB, 0x21]
  | .sla_D => [0xCB, 0x22]
  | .sla_E => [0xCB, 0x23]
  | .sla_H => [0xCB, 0x24]
  | .sla_L => [0xCB, 0x25]
  | .sla_MemHL => [0xCB, 0x26]
  | .sla_A => [0xCB, 0x27]
  | .sra_B => [0xCB, 0x28]
  | .sra_C => [0xCB, 0x29]
  | .sra_D => [0xCB, 0x2A]
  | .sra_E => [0xCB, 0x2B]
  | .sra_H => [0xCB, 0x2C]
  | .sra_L => [0xCB, 0x2D]
  | .sra_MemHL => [0xCB, 0x2E]
  | .sra_A => [0xCB, 0x2F]
  | .swap_B => [0xCB, 0x30]
  | .swap_C => [0xCB, 0x31]
  | .swap_D => [0xCB, 0x32]
  | .swap_E => [0xCB, 0x33]
  | .swap_H => [0xCB, 0x34]
  | .swap_L => [0xCB, 0x35]
  | .swap_MemHL => [0xCB, 0x36]
  | .swap_A => [0xCB, 0x37]
  | .srl_B => [0xCB, 0x38]
  | .srl_C => [0xCB, 0x39]
  | .srl_D => [0xCB, 0x3A]
  | .srl_E => [0xCB, 0x3B]
  | .srl_H => [0xCB, 0x3C]
  | .srl_L => [0xCB, 0x3D]
  | .srl_MemHL => [0xCB, 0x3E]
  | .srl_A => [0xCB, 0x3F]
  | .bit_0_B => [0xCB, 0x40]
  | .bit_0_C => [0xCB, 0x41]
  | .bit_0_D => [0xCB, 0x42]
  | .bit_0_E => [0xCB, 0x43]
  | .bit_0_H => [0xCB, 0x44]
  | .bit_0_L => [0xCB, 0x45]
  | .bit_0_MemHL => [0xCB, 0x46]
  | .bit_0_A => [0xCB, 0x47]
  | .bit_1_B => [0xCB, 0x48]
  | .bit_1_C => [0xCB, 0x49]
  | .bit_1_D => [0xCB, 0x4A]
  | .bit_1_E => [0xCB, 0x4B]
  | .bit_1_H => [0xCB, 0x4C]
  | .bit_1_L => [0xCB, 0x4D]
  | .bit_1_MemHL => [0xCB, 0x4E]
  | .bit_1_A => [0xCB, 0x4F]
  | .bit_2_B => [0xCB, 0x50]
  | .bit_2_C => [0xCB, 0x51]
  | .bit_2_D => [0xCB, 0x52]
  | .bit_2_E => [0xCB, 0x53]
  | .bit_2_H => [0xCB, 0x54]
  | .bit_2_L => [0xCB, 0x55]
  | .bit_2_MemHL => [0xCB, 0x56]
  | .bit_2_A => [0xCB, 0x57]
  | .bit_3_B => [0xCB, 0x58]
  | .bit_3_C => [0xCB, 0x59]
  | .bit_3_D => [0xCB, 0x5A]
  | .bit_3_E => [0xCB, 0x5B]
  | .bit_3_H => [0xCB, 0x5C]
  | .bit_3_L => [0xCB, 0x5D]
  | .bit_3_MemHL => [0xCB, 0x5E]
  | .bit_3_A => [0xCB, 0x5F]
  | .bit_4_B => [0xCB, 0x60]
  | .bit_4_C => [0xCB, 0x61]
  | .bit_4_D => [0xCB, 0x62]
  | .bit_4_E => [0xCB, 0x63]
  | .bit_4_H => [0xCB, 0x64]
  | .bit_4_L => [0xCB, 0x65]
  | .bit_4_MemHL => [0xCB, 0x66]
  | .bit_4_A => [0xCB, 0x67]
  | .bit_5_B => [0xCB, 0x68]
  | .bit_5_C => [0xCB, 0x69]
  | .bit_5_D => [0xCB, 0x6A]
  | .bit_5_E => [0xCB, 0x6B]
  | .bit_5_H => [0xCB, 0x6C]
  | .bit_5_L => [0xCB, 0x6D]
  | .bit_5_MemHL => [0xCB, 0x6E]
  | .bit_5_A => [0xCB, 0x6F]
  | .bit_6_B => [0xCB, 0x70]
  | .bit_6_C => [0xCB, 0x71]
  | .bit_6_D => [0xCB, 0x72]
  | .bit_6_E => [0xCB, 0x73]
  | .bit_6_H => [0xCB, 0x74]
  | .bit_6_L => [0xCB, 0x75]
  | .bit_6_MemHL => [0xCB, 0x76]
  | .bit_6_A => [0xCB, 0x77]
  | .bit_7_B => [0xCB, 0x78]
  | .bit_7_C => [0xCB, 0x79]
  | .bit_7_D => [0xCB, 0x7A]
  | .bit_7_E => [0xCB, 0x7B]
  | .bit_7_H => [0xCB, 0x7C]
  | .bit_7_L => [0xCB, 0x7D]
  | .bit_7_MemHL => [0xCB, 0x7E]
  | .bit_7_A => [0xCB, 0x7F]
  | .res_0_B => [0xCB, 0x80]
  | .res_0_C => [0xCB, 0x81]
  | .res_0_D => [0xCB, 0x82]
  | .res_0_E => [0xCB, 0x83]
  | .res_0_H => [0xCB, 0x84]
  | .res_0_L => [0xCB, 0x85]
  | .res_0_MemHL => [0xCB, 0x86]
  | .res_0_A => [0xCB, 0x87]
  | .res_1_B => [0xCB, 0x88]
  | .res_1_C => [0xCB, 0x89]
  | .res_1_D => [0xCB, 0x8A]
  | .res_1_E => [0xCB, 0x8B]
  | .res_1_H => [0xCB, 0x8C]
  | .res_1_L => [0xCB, 0x8D]
  | .res_1_MemHL => [0xCB, 0x8E]
  | .res_1_A => [0xCB, 0x8F]
  | .res_2_B => [0xCB, 0x90]
  | .res_2_C => [0xCB, 0x91]
  | .res_2_D => [0xCB, 0x92]
  | .res_2_E => [0xCB, 0x93]
  | .res_2_H => [0xCB, 0x94]
  | .res_2_L => [0xCB, 0x95]
  | .res_2_MemHL => [0xCB, 0x96]
  | .res_2_A => [0xCB, 0x97]
  | .res_3_B => [0xCB, 0x98]
  | .res_3_C => [0xCB, 0x99]
  | .res_3_D => [0xCB, 0x9A]
  | .res_3_E => [0xCB, 0x9B]
  | .res_3_H => [0xCB, 0x9C]
  | .res_3_L => [0xCB, 0x9D]
  | .res_3_MemHL => [0xCB, 0x9E]
  | .res_3_A => [0xCB, 0x9F]
  | .res_4_B => [0xCB, 0xA0]
  | .res_4_C => [0xCB, 0xA1]
  | .res_4_D => [0xCB, 0xA2]
  | .res_4_E => [0xCB, 0xA3]
  | .res_4_H => [0xCB, 0xA4]
  | .res_4_L => [0xCB, 0xA5]
  | .res_4_MemHL => [0xCB, 0xA6]
  | .res_4_A => [0xCB, 0xA7]
  | .res_5_B => [0xCB, 0xA8]
  | .res_5_C => [0xCB, 0xA9]
  | .res_5_D => [0xCB, 0xAA]
  | .res_5_E => [0xCB, 0xAB]
  | .res_5_H => [0xCB, 0xAC]
  | .res_5_L => [0xCB, 0xAD]
  | .res_5_MemHL => [0xCB, 0xAE]
  | .res_5_A => [0xCB, 0xAF]
  | .res_6_B => [0xCB, 0xB0]
  | .res_6_C => [0xCB, 0xB1]
  | .res_6_D => [0xCB, 0xB2]
  | .res_6_E => [0xCB, 0xB3]
  | .res_6_H => [0xCB, 0xB4]
  | .res_6_L => [0xCB, 0xB5]
  | .res_6_MemHL => [0xCB, 0xB6]
  | .res_6_A => [0xCB, 0xB7]
  | .res_7_B => [0xCB, 0xB8]
  | .res_7_C => [0xCB, 0xB9]
  | .res_7_D => [0xCB, 0xBA]
  | .res_7_E => [0xCB, 0xBB]
  | .res_7_H => [0xCB, 0xBC]
  | .res_7_L => [0xCB, 0xBD]
  | .res_7_MemHL => [0xCB, 0xBE]
  | .res_7_A => [0xCB, 0xBF]
  | .set_0_B => [0xCB, 0xC0]
  | .set_0_C => [0xCB, 0xC1]
  | .set_0_D => [0xCB, 0xC2]
  | .set_0_E => [0xCB, 0xC3]
  | .set_0_H => [0xCB, 0xC4]
  | .set_0_L => [0xCB, 0xC5]
  | .set_0_MemHL => [0xCB, 0xC6]
  | .set_0_A => [0xCB, 0xC7]
  | .set_1_B => [0xCB, 0xC8]
  | .set_1_C => [0xCB, 0xC9]
  | .set_1_D => [0xCB, 0xCA]
  | .set_1_E => [0xCB, 0xCB]
  | .set_1_H => [0xCB, 0xCC]
  | .set_1_L => [0xCB, 0xCD]
  | .set_1_MemHL => [0xCB, 0xCE]
  | .set_1_A => [0xCB, 0xCF]
  | .set_2_B => [0xCB, 0xD0]
  | .set_2_C => [0xCB, 0xD1]
  | .set_2_D => [0xCB, 0xD2]
  | .set_2_E => [0xCB, 0xD3]
  | .set_2_H => [0xCB, 0xD4]
  | .set_2_L => [0xCB, 0xD5]
  | .set_2_MemHL => [0xCB, 0xD6]
  | .set_2_A => [0xCB, 0xD7]
  | .set_3_B => [0xCB, 0xD8]
  | .set_3_C => [0xCB, 0xD9]
  | .set_3_D => [0xCB, 0xDA]
  | .set_3_E => [0xCB, 0xDB]
  | .set_3_H => [0xCB, 0xDC]
  | .set_3_L => [0xCB, 0xDD]
  | .set_3_MemHL => [0xCB, 0xDE]
  | .set_3_A => [0xCB, 0xDF]
  | .set_4_B => [0xCB, 0xE0]
  | .set_4_C => [0xCB, 0xE1]
  | .set_4_D => [0xCB, 0xE2]
  | .set_4_E => [0xCB, 0xE3]
  | .set_4_H => [0xCB, 0xE4]
  | .set_4_L => [0xCB, 0xE5]
  | .set_4_MemHL => [0xCB, 0xE6]
  | .set_4_A => [0xCB, 0xE7]
  | .set_5_B => [0xCB, 0xE8]
  | .set_5_C => [0xCB, 0xE9]
  | .set_5_D => [0xCB, 0xEA]
  | .set_5_E => [0xCB, 0xEB]
  | .set_5_H => [0xCB, 0xEC]
  | .set_5_L => [0xCB, 0xED]
  | .set_5_MemHL => [0xCB, 0xEE]
  | .set_5_A => [0xCB, 0xEF]
  | .set_6_B => [0xCB, 0xF0]
  | .set_6_C => [0xCB, 0xF1]
  | .set_6_D => [0xCB, 0xF2]
  | .set_6_E => [0xCB, 0xF3]
  | .set_6_H => [0xCB, 0xF4]
  | .set_6_L => [0xCB, 0xF5]
  | .set_6_MemHL => [0xCB, 0xF6]
  | .set_6_A => [0xCB, 0xF7]
  | .set_7_B => [0xCB, 0xF8]
  | .set_7_C => [0xCB, 0xF9]
  | .set_7_D => [0xCB, 0xFA]
  | .set_7_E => [0xCB, 0xFB]
  | .set_7_H => [0xCB, 0xFC]
  | .set_7_L => [0xCB, 0xFD]
  | .set_7_MemHL => [0xCB, 0xFE]
  | .set_7_A => [0xCB, 0xFF]

/-- The instruction's encoded size in bytes (30 R140, R153). -/
def Instr.length (i : Instr) : Nat := (encode i).length

/-- The descriptor's count: the alternate one if `taken`, else the base one (30 R145, R148). -/
def Instr.cycles (i : Instr) (taken : Bool) : Nat :=
  if !wellFormed i then 0
  else match encode i with
    | 0xCB :: sub :: _ => cbCycles sub.toNat
    | o :: _ => (if taken then takenCycles else baseCycles).getD o.toNat 0
    | [] => 0

/-- The opcode is EI's (30 R147). -/
def Instr.isEi : Instr → Bool
  | .ei => true
  | _ => false

/-- The opcode is DI's (30 R147). -/
def Instr.isDi : Instr → Bool
  | .di => true
  | _ => false

/-- The bytes of an instruction word numbered as spec/opcode_table.json numbers it, zeros above `nbits` (log 5): the first
byte is bits 7:0, except that a 16-bit word with 0xCB in bits 15:8 is a CB row, which the table writes first byte first. -/
def tableBytes (nbits w : Nat) : List Byte :=
  let v := w % 2 ^ nbits
  let byte (k : Nat) : Byte := BitVec.ofNat 8 (v / 2 ^ (8 * k))
  if nbits = 16 ∧ v / 256 = 0xCB then [0xCB, byte 0, 0] else [byte 0, byte 1, byte 2]

/-- The decoder's answer for a word of spec/opcode_table.json. -/
def decodeTableWord (nbits w : Nat) : Option Instr := (decode (tableBytes nbits w)).toOption.map Prod.fst

end Sys2Proof
end

