-- ==== Sys2Proof/Machine/Engine.lean ====
section
/-! DEFINITION. What a step does around `Execute`: the fetch with the HALT bug, and the EI delay (30_encoding.md R146, R147;
60_exceptions.md R410). -/

namespace Sys2Proof.Machine

/-- The address of the byte after the opcode byte: with the HALT bug the opcode fetch does not advance PC (30 R146). -/
def State.afterOpcode (s : State) : Word := if s.haltBug then s.pc else s.pc + 1

/-- The instruction at PC and its length. Up to three bytes are read through the router; reading a byte that the
instruction does not take has no effect (20 R68, log 18). -/
def State.decodeAtPc (s : State) : Instr × Nat :=
  decodeWindow (s.busRead s.pc) (s.busRead s.afterOpcode) (s.busRead (s.afterOpcode + 1))

/-- The fetch: the instruction, and the state with PC past it and the HALT bug cleared (30 R146). -/
def State.fetch (s : State) : Instr × State :=
  let (i, len) := s.decodeAtPc
  (i, { s with pc := s.afterOpcode + BitVec.ofNat 16 (len - 1), haltBug := false })

/-- After the action: a pending EI takes effect unless the instruction is DI, and `ei_pending` records EI
(30 R147, 60 R410). -/
def State.settleEi (s : State) (pend : Bool) (i : Instr) : State :=
  { s with
    ime := s.ime || (pend && !i.isDi)
    eiPending := i.isEi }

/-- The end of a RUN step: the EI delay, then the interrupt check (30 R147). -/
def State.finish (s : State) (pend : Bool) (i : Instr) : State := (s.settleEi pend i).interruptCheck

/-- A HALTED step: 4 ticks, the wake check, the interrupt check (30 R147, 60 R414). -/
def State.haltedStep (s : State) : State := (s.haltWakeCheck.tick 4).interruptCheck

/-- A STOPPED step: the wake check and 4 ticks, no interrupt check (30 R147, 60 R424). -/
def State.stoppedStep (s : State) : State := s.stopWakeCheck.tick 4

/-- Put one byte where the bus reads an address, past the CPU's write rules: the loader's way to place a program in ROM.
Addresses whose reads are computed (P1, KEY1, BCPD, OCPD, the not-usable region, closed external RAM) hold no byte of
their own and are left as they are. -/
def State.place (s : State) (addr : Word) (v : Byte) : State :=
  let a := addr.toNat
  match resolve addr with
  | .rom0 | .romX =>
    match s.bootMapped && bootOverlays a, s.bootRom with
    | true, some image => { s with bootRom := some (image.write a v) }
    | _, _ => { s with cart := { s.cart with rom := s.cart.rom.write (s.romIndex a) v } }
  | .vram => { s with vram := s.vram.write (s.vramIndex (a - 0x8000)) v }
  | .eram => s.eramWrite a v
  | .wram0 | .wramX => { s with wram := s.wram.write (s.wramIndex a) v }
  | .echo => { s with wram := s.wram.write (s.wramIndex (a - 0x2000)) v }
  | .oam => { s with oam := s.oam.write (a - 0xFE00) v }
  | .unusable => s
  | .io => s.setPort (addr.setWidth 7) v
  | .hram => { s with hram := s.hram.write (a - 0xFF80) v }
  | .ie => { s with ie := v }

/-- Put bytes at rising addresses, modulo 2^16. -/
def State.placeBytes (s : State) (addr : Word) : List Byte → State
  | [] => s
  | v :: vs => (s.place addr v).placeBytes (addr + 1) vs

end Sys2Proof.Machine
end

