-- ==== Sys2Proof/Machine/Step.lean ====
section
/-! DEFINITION. One step (30_encoding.md R147), and a state whose next step runs a given instruction. Step.lean only calls
what Engine.lean and Ops.lean define. -/

namespace Sys2Proof.Machine

/-- `step()`: one instruction, or one period of the STOP or HALT stall (30 R147). The count it returns is how far it
advances `cycles` (log 7). -/
def step (s : State) : Host.Outcome State Fault Refusal :=
  if s.stopped then .next s.stoppedStep
  else if s.halted then .next s.haltedStep
  else
    match exec s.fetch.1 s.fetch.2 with
    | .next t => .next (t.finish s.eiPending s.fetch.1)
    | .fault r => .fault r
    | .refused r => .refused r

/-- The state with the instruction of a table word placed at PC, in the RUN state with no HALT bug, so that the next step
runs exactly it (log 3). At State.reset PC is 0x0100, in the cartridge ROM. -/
def State.withFetchWord (s : State) (nbits w : Nat) : State :=
  { s with halted := false, stopped := false, haltBug := false }.placeBytes s.pc (tableBytes nbits w)

end Sys2Proof.Machine
end

