-- ==== Sys2Proof/Machine/HostEvents.lean ====
section
/-! DEFINITION. What the host and the devices can do between two steps (20_memory.md R92, R119; 60_exceptions.md R412, R413;
00_scope.md R11). No part of `step` (log 9). -/

namespace Sys2Proof.Machine

/-- An event between two steps. -/
inductive HostEvent where
  /-- `request_interrupt(i)` (60 R412). -/
  | requestInterrupt (source : Nat)
  /-- A device stores a byte in a port (60 R413). -/
  | devicePortWrite (port : BitVec 7) (v : Byte)
  /-- The PPU signals the start of an HBlank (20 R92). -/
  | hblank
  /-- The joypad lines change (00 R11). -/
  | setJoypad (lines : Byte)
  deriving DecidableEq, Repr

/-- Request source i: `IF[i] <- 1` and nothing else; a source outside 0..4 is refused (60 R403, R412). -/
def State.requestInterrupt (s : State) (source : Nat) : Result :=
  if source < 5 then .next (s.setIf (s.ifReg ||| ((1 : Byte) <<< source))) else .refused .interruptRequestOutOfRange

/-- A device port write stores the byte as given, past the CPU's write rules: no DIV reset, no IF OR, no P1 masking, no DMA
copy (60 R413). Which device owns which port is the host's affair, so every port takes the byte (log 14). -/
def State.devicePortWrite (s : State) (p : BitVec 7) (v : Byte) : State := s.setPort p v

/-- The HBlank event: one 16-byte block of an armed transfer (20 R92). -/
def State.hblank (s : State) : State :=
  if s.hdmaActive then
    let t := vramCopy s.hdmaSrc s.hdmaDst 16 0 s
    let u := { t with hdmaSrc := s.hdmaSrc + 16, hdmaDst := vramDest s.hdmaDst 16 }
    if s.hdmaBlocks = 0 then { u.setPort 0x55 0xFF with hdmaActive := false }
    else { u.setPort 0x55 ((s.hdmaBlocks - 1).setWidth 8) with hdmaBlocks := s.hdmaBlocks - 1 }
  else s

/-- The state after an event. -/
def hostEvent (ev : HostEvent) (s : State) : Result :=
  match ev with
  | .requestInterrupt i => s.requestInterrupt i
  | .devicePortWrite p v => .next (s.devicePortWrite p v)
  | .hblank => .next s.hblank
  | .setJoypad lines => .next { s with joypIn := lines }

end Sys2Proof.Machine
end

