-- ==== Sys2Proof/Machine/Reset.lean ====
section
/-! DEFINITION. The reset event for every parameter and every draw: the configuration checks, the cartridge load and the two
reset profiles (10_state.md R58, R59; 20_memory.md R60, R99; 70_reset_and_hazards.md R450-R453). -/

namespace Sys2Proof.Machine

/-- `fatal(reason)`: the machine refuses to start, there is no initial state (00 R15, 70 R450). -/
inductive Fatal where
  /-- The region table fails a check (20 R60). -/
  | busConfiguration
  /-- The cartridge's type byte is not supported (20 R99). -/
  | unsupportedCartridgeType
  /-- A size byte or the ROM's length does not fit (20 R99). -/
  | badCartridge
  /-- The BOOT_ROM profile without an image (70 R450). -/
  | noBootRomImage
  deriving DecidableEq, Repr

/-- `P_CART` as the loader supplies it (20 R99): the header bytes, the ROM's length in bytes, and the bytes of ROM and ERAM
as cells (an offset without a cell holds the unlisted byte). -/
structure CartImage where
  typeByte : Byte
  romSizeByte : Byte
  ramSizeByte : Byte
  romLength : Nat
  rom : List Host.Cell
  eram : List Host.Cell
  deriving DecidableEq, Repr

/-- The kind of bank controller of a type byte (20 R99). -/
def mbcKindOf (t : Byte) : Option MbcKind :=
  if t = 0x00 then some .romOnly
  else if t = 0x01 ∨ t = 0x02 ∨ t = 0x03 then some .mbc1
  else if 0x19 ≤ t.toNat ∧ t.toNat ≤ 0x1E then some .mbc5
  else none

/-- `rom_banks` of a ROM size byte (20 R99). -/
def romBanksOf (b : Byte) : Option Nat := if b.toNat ≤ 8 then some (2 * 2 ^ b.toNat) else none

/-- `ram_size` of a RAM size byte (20 R99). -/
def ramSizeOf (b : Byte) : Option Nat :=
  if b = 0 then some 0 else if b = 1 then some 2048 else if b = 2 then some 8192 else if b = 3 then some 32768
  else if b = 4 then some 131072 else if b = 5 then some 65536 else none

/-- Load a cartridge: what it is, and its external RAM (20 R99). -/
def loadCart (img : CartImage) : Except Fatal (Cart × Mem) :=
  match mbcKindOf img.typeByte with
  | none => .error .unsupportedCartridgeType
  | some kind =>
    match romBanksOf img.romSizeByte, ramSizeOf img.ramSizeByte with
    | some banks, some ram =>
      if img.romLength ≠ banks * 16384 ∨ (kind = .romOnly ∧ (banks ≠ 2 ∨ ram ≠ 0)) then .error .badCartridge
      else
        .ok ({ kind := kind, romBanks := banks, ramSize := ram, rom := Mem.ofCells (banks * 16384) img.rom },
          Mem.ofCells ram img.eram)
    | _, _ => .error .badCartridge

/-- `RESET_DRAW`: a value for every piece of state the reset leaves open (10 R58, R59). What the profile fixes is not read
from it. -/
structure Draw where
  af : Word
  bc : Word
  de : Word
  hl : Word
  sp : Word
  io : Vector Byte 128
  wram : List Host.Cell
  vram : List Host.Cell
  oam : List Host.Cell
  hram : List Host.Cell
  bgPal : List Host.Cell
  objPal : List Host.Cell
  hdmaSrc : Word
  hdmaDst : Word
  hdmaBlocks : BitVec 7
  deriving DecidableEq, Repr

/-- The ports both profiles fix: P1's selectors, VBK, HDMA5, SVBK (10 R58). -/
def drawnIo (d : Draw) : Vector Byte 128 :=
  (((d.io.set 0x00 (d.io[0x00] &&& 0xCF)).set 0x4F 0x00).set 0x55 0xFF).set 0x70 0x00

/-- `Reset(P_CART, P_BOOT_ROM, P_RESET_PROFILE, RESET_DRAW)`, with the parameters a step reads and the joypad lines at the
start (70 R450). A drawn F keeps its low nibble 0 (10 R59); a drawn hdma_dst is kept inside VRAM (10 R39, log 13). -/
def reset (img : CartImage) (boot : Option (List Host.Cell)) (profile : ResetProfile) (params : Params) (d : Draw)
    (joyp : Byte) : Except Fatal State :=
  if !tableValid regionTable then .error .busConfiguration
  else
    match loadCart img with
    | .error e => .error e
    | .ok (cart, eram) =>
      let common : State :=
        { af := joinBytes (hiByte d.af) (loByte d.af &&& 0xF0), bc := d.bc, de := d.de, hl := d.hl, sp := d.sp, pc := 0x0000
          ime := false, eiPending := false, ie := 0x00, io := drawnIo d
          halted := false, haltBug := false, stopped := false, doubleSpeed := false, key1Armed := false, cycles := 0
          wram := Mem.ofCells 0x8000 d.wram, vram := Mem.ofCells 0x4000 d.vram, oam := Mem.ofCells 160 d.oam
          hram := Mem.ofCells 127 d.hram, bgPal := Mem.ofCells 64 d.bgPal, objPal := Mem.ofCells 64 d.objPal, eram := eram
          bootMapped := false, bootRom := boot.map (Mem.ofCells 0x900), cart := cart
          romBank := 1, ramBank := 0, ramEnable := false, mbc1Mode := .rom
          hdmaSrc := d.hdmaSrc, hdmaDst := 0x8000 ||| (d.hdmaDst &&& 0x1FF0), hdmaActive := false, hdmaBlocks := d.hdmaBlocks
          joypIn := joyp, params := params }
      match profile with
      | .postBoot =>
        .ok { common with
          af := 0x1180, bc := 0x0000, de := 0xFF56, hl := 0x000D, sp := 0xFFFE, pc := 0x0100
          io := (common.io.set 0x0F 0xE1).set 0x50 0x11 }
      | .bootRom =>
        match boot with
        | none => .error .noBootRomImage
        | some _ => .ok { common with bootMapped := true, io := common.io.set 0x50 0x00 }

/-- The draw State.reset takes: every bit 1 (log 2). -/
def onesDraw : Draw where
  af := 0xFFFF
  bc := 0xFFFF
  de := 0xFFFF
  hl := 0xFFFF
  sp := 0xFFFF
  io := Vector.replicate 128 0xFF
  wram := []
  vram := []
  oam := []
  hram := []
  bgPal := []
  objPal := []
  hdmaSrc := 0xFFFF
  hdmaDst := 0xFFFF
  hdmaBlocks := 0x7F

/-- The cartridge State.reset takes: ROM_ONLY, 32 KiB, erased (log 3). -/
def erasedCart : CartImage where
  typeByte := 0x00
  romSizeByte := 0x00
  ramSizeByte := 0x00
  romLength := 32768
  rom := []
  eram := []

end Sys2Proof.Machine
end

