-- ==== Sys2Proof/Safety.lean ====
section
/-! DEFINITION. The terms claims are stated in: the machine's invariant, reachable states, and the part of a state that a
register instruction leaves alone. -/

namespace Sys2Proof.Machine

/-- A cartridge as 20 R99 accepts it. -/
structure Cart.Ok (c : Cart) : Prop where
  romBanks : ∃ k ≤ 8, c.romBanks = 2 * 2 ^ k
  ramSize : c.ramSize ∈ [0, 2048, 8192, 32768, 65536, 131072]
  romOnly : c.kind = .romOnly → c.romBanks = 2 ∧ c.ramSize = 0
  rom : c.rom.wf (c.romBanks * 16384) = true

/-- The invariant of the machine: the storage arrays are canonical and of their sizes, F's low nibble is 0 (10 R22), the
engine is in one state (10 R42; 60 R410, R415), the bank registers fit their controller (10 R38; 20 R102), hdma_dst is a
16-byte block of VRAM (10 R39), and the boot ROM is mapped only if there is one (10 R58). -/
structure State.Inv (s : State) : Prop where
  wram : s.wram.wf 0x8000 = true
  vram : s.vram.wf 0x4000 = true
  oam : s.oam.wf 160 = true
  hram : s.hram.wf 127 = true
  bgPal : s.bgPal.wf 64 = true
  objPal : s.objPal.wf 64 = true
  eram : s.eram.wf s.cart.ramSize = true
  cart : s.cart.Ok
  fLow : s.f &&& 0x0F = 0
  oneStall : ¬(s.halted = true ∧ s.stopped = true)
  bugRuns : s.haltBug = true → s.halted = false ∧ s.stopped = false
  eiRuns : s.eiPending = true → s.halted = false ∧ s.stopped = false
  mbc1Rom : s.cart.kind = .mbc1 → s.romBank.toNat < 128 ∧ s.romBank.toNat % 32 ≠ 0
  mbc1Ram : s.cart.kind = .mbc1 → s.ramBank.toNat < 4
  hdmaDst : s.hdmaDst &&& 0xE00F = 0x8000
  boot : s.bootMapped = true → s.bootRom.isSome = true

/-- The states of the machine: those a reset gives, for any parameters, cartridge and draw, and those reached from them by
steps and by events between steps. -/
inductive Reachable : State → Prop
  | reset {img : CartImage} {boot : Option (List Host.Cell)} {profile : ResetProfile} {params : Params} {d : Draw}
      {joyp : Byte} {s : State} (h : Machine.reset img boot profile params d joyp = .ok s) : Reachable s
  | step {s t : State} (hs : Reachable s) (h : Machine.step s = .next t) : Reachable t
  | event {s t : State} {ev : HostEvent} (hs : Reachable s) (h : hostEvent ev s = .next t) : Reachable t

/-- The state with the general registers, SP, PC and the cycle counter blanked: what is left is every memory, every port,
the interrupt and engine bits, the bank controller, the DMA registers, the cartridge, the parameters and the host input. -/
def State.rest (s : State) : State := { s with af := 0, bc := 0, de := 0, hl := 0, sp := 0, pc := 0, cycles := 0 }

/-- The engine is in the RUN state (10 R42). -/
def State.running (s : State) : Bool := !s.halted && !s.stopped

/-- A step is safe when it answers a next state. -/
def SafeStep (s : State) : Prop := ∃ t, step s = .next t

/-! ### Words the statements use -/

/-- A byte from its number. -/
def byte (n : Nat) : Byte := BitVec.ofNat 8 n

/-- The effect of `r8[r] <- v` and of nothing else but flags and cost: the register holds the value (or, for (HL), the bus
write of the value at HL has happened), and every other register, SP, PC and all the rest of the state are unchanged. -/
def WritesR8 (s t : State) (r : R8) (v : Byte) : Prop :=
  (r = .mHL → t.rest = (s.busWrite s.hl v).rest) ∧
  (r ≠ .mHL → t.r8 r = v ∧ t.rest = s.rest) ∧
  (∀ r', r' ≠ r → r' ≠ .mHL → t.r8 r' = s.r8 r') ∧
  t.sp = s.sp ∧ t.pc = s.pc

/-- The effect of `r16[p] <- v` and of nothing else but flags and cost. -/
def WritesR16 (s t : State) (p : R16) (v : Word) : Prop :=
  t.r16 p = v ∧ (∀ q, q ≠ p → t.r16 q = s.r16 q) ∧ t.a = s.a ∧ t.pc = s.pc ∧ t.rest = s.rest

/-- The four flags, and F's low nibble 0 (10 R22, R23). -/
def FlagsAre (t : State) (z n h c : Bool) : Prop :=
  t.flagZ = z ∧ t.flagN = n ∧ t.flagH = h ∧ t.flagC = c ∧ t.f &&& 0x0F = 0

/-- The operation `alu[y]` in all its forms (42 R250): each register, (HL) and n8 as the operand `b`; `P s b t` says what it
does. -/
def AluForms (y : Nat) (P : State → Byte → State → Prop) : Prop :=
  (∀ (src : R8) (s : State), ∃ i t, decode [byte (0x80 + 8 * y + src.index)] = .ok (i, []) ∧ exec i s = .next t ∧
    P s (s.r8 src) t ∧ t.cycles = s.cycles + (if src = .mHL then 8 else 4)) ∧
  (∀ (n : Byte) (s : State), ∃ i t, decode [byte (0xC6 + 8 * y), n] = .ok (i, []) ∧ exec i s = .next t ∧
    P s n t ∧ t.cycles = s.cycles + 8)

/-- `rot[y]` in plain arithmetic on the byte's number `v` and the carry `c` (0 or 1): the result, and whether C is set
(44 R295-R302). -/
def rotArith : RotOp → (v c : Nat) → Nat × Bool
  | .rlc, v, _ => (2 * v % 256 + v / 128, decide (v / 128 = 1))
  | .rrc, v, _ => (v / 2 + v % 2 * 128, decide (v % 2 = 1))
  | .rl, v, c => (2 * v % 256 + c, decide (v / 128 = 1))
  | .rr, v, c => (v / 2 + c * 128, decide (v % 2 = 1))
  | .sla, v, _ => (2 * v % 256, decide (v / 128 = 1))
  | .sra, v, _ => (v / 2 + v / 128 * 128, decide (v % 2 = 1))
  | .swap, v, _ => (v % 16 * 16 + v / 16, false)
  | .srl, v, _ => (v / 2, decide (v % 2 = 1))

/-- The condition of a conditional instruction (45 R312, R315, R317, R319). -/
def condOf : Instr → Option Cond
  | .jp_NZ_a16 _ | .jr_NZ_e8 _ | .call_NZ_a16 _ | .ret_NZ => some .nz
  | .jp_Z_a16 _ | .jr_Z_e8 _ | .call_Z_a16 _ | .ret_Z => some .z
  | .jp_NC_a16 _ | .jr_NC_e8 _ | .call_NC_a16 _ | .ret_NC => some .nc
  | .jp_C_a16 _ | .jr_C_e8 _ | .call_C_a16 _ | .ret_C => some .c
  | _ => none

/-- `taken` of 30 R147: 1 only for a conditional instruction whose condition holds. -/
def takenIn (i : Instr) (s : State) : Bool := (condOf i).any s.holds

/-- An unprefixed opcode byte whose instruction writes F (10 R23, R26; 30 R141): x = 0 with z = 4, 5, 7 or ADD HL; x = 2; x = 3
with z = 6; ADD SP, LD HL,SP+e8, POP AF. -/
def flagOpcode (o : Byte) : Bool :=
  let x := o.toNat / 64
  let z := o.toNat % 8
  decide (x = 0 ∧ (z = 4 ∨ z = 5 ∨ z = 7 ∨ (z = 1 ∧ o.toNat / 8 % 2 = 1))) || decide (x = 2) || decide (x = 3 ∧ z = 6) ||
    decide (o.toNat ∈ [0xE8, 0xF8, 0xF1])

/-- The addresses an instruction stores to, in order, from the state its meaning is given; [] for a form that stores
nothing. -/
def stores (i : Instr) (s : State) : List Word :=
  match i with
  | .ld_MemBC_A => [s.bc]
  | .ld_MemDE_A => [s.de]
  | .ld_MemA16_A nn => [nn]
  | .ld_MemA16_SP nn => [nn, nn + 1]
  | .ldh_MemA8_A a => [0xFF00 + a.setWidth 16]
  | .ld_MemC_A => [0xFF00 + s.c.setWidth 16]
  | .ld_MemHL_B | .ld_MemHL_C | .ld_MemHL_D | .ld_MemHL_E | .ld_MemHL_H | .ld_MemHL_L | .ld_MemHL_A | .ld_MemHL_n8 _
  | .ld_MemHLInc_A | .ld_MemHLDec_A | .inc_MemHL | .dec_MemHL
  | .rlc_MemHL | .rrc_MemHL | .rl_MemHL | .rr_MemHL | .sla_MemHL | .sra_MemHL | .swap_MemHL | .srl_MemHL
  | .res_0_MemHL | .res_1_MemHL | .res_2_MemHL | .res_3_MemHL | .res_4_MemHL | .res_5_MemHL | .res_6_MemHL | .res_7_MemHL
  | .set_0_MemHL | .set_1_MemHL | .set_2_MemHL | .set_3_MemHL | .set_4_MemHL | .set_5_MemHL | .set_6_MemHL | .set_7_MemHL =>
    [s.hl]
  | .push_BC | .push_DE | .push_HL | .push_AF | .call_a16 _
  | .rst_00 | .rst_08 | .rst_10 | .rst_18 | .rst_20 | .rst_28 | .rst_30 | .rst_38 => [s.sp - 1, s.sp - 2]
  | .call_NZ_a16 _ => if s.holds .nz then [s.sp - 1, s.sp - 2] else []
  | .call_Z_a16 _ => if s.holds .z then [s.sp - 1, s.sp - 2] else []
  | .call_NC_a16 _ => if s.holds .nc then [s.sp - 1, s.sp - 2] else []
  | .call_C_a16 _ => if s.holds .c then [s.sp - 1, s.sp - 2] else []
  | _ => []

/-- An address whose write only stores the byte, in the array it shows: VRAM, external RAM, WRAM, echo RAM, OAM, HRAM, IE,
and the not-usable region, whose writes do nothing. -/
def plainRegion : Region → Bool
  | .vram | .eram | .wram0 | .wramX | .echo | .oam | .unusable | .hram | .ie => true
  | .rom0 | .romX | .io => false

/-- The storage cell behind an address under the banks now selected: two addresses with the same cell show one byte (echo
RAM, a switchable bank, mirrored external RAM). -/
def State.cellOf (s : State) (a : Word) : Region × Nat :=
  match resolve a with
  | .wram0 | .wramX => (.wram0, s.wramIndex a.toNat)
  | .echo => (.wram0, s.wramIndex (a.toNat - 0x2000))
  | .eram => (.eram, s.eramIndex a.toNat)
  | r => (r, a.toNat)

/-- The state two pushed bytes leave, by 20 R66: SP-1 gets the high byte, then SP-2 the low byte. -/
def Pushed (s : State) (v : Word) : State :=
  { ({ s with sp := s.sp - 1 } : State).busWrite (s.sp - 1) (hiByte v) with sp := s.sp - 2 }.busWrite (s.sp - 2) (loByte v)

end Sys2Proof.Machine
end

