-- ==== Sys2Proof/Certificates/Slice0/Obligations.lean ====
section
/-! DEFINITION. The statements for the provers, each from the rules of spec/ its docstring cites. Encodings are the bytes the
rules give; `Mem..` constructors, costs and frames are stated with them. -/

open Sys2Proof Sys2Proof.Machine

/-! ### Encoding -/

/-- Every well-formed instruction, with every operand at every value, decodes from its own encoding, whatever follows it
(30 R140, R142, R145, R151, R152). -/
def Obligations.DecodeEncode : Prop :=
  ∀ (i : Instr) (rest : List Byte), wellFormed i = true → decode (encode i ++ rest) = .ok (i, rest)

/-- An instruction has one encoding: what decodes is the encoding of what it decodes to, and it is well formed (30 R145). -/
def Obligations.EncodeDecode : Prop :=
  ∀ (bs rest : List Byte) (i : Instr), decode bs = .ok (i, rest) → wellFormed i = true ∧ encode i ++ rest = bs

/-- Decode is total on every byte value: three bytes always start with an instruction; only a text that ends too early is
none (30 R145, R150). -/
def Obligations.DecodeTotal : Prop :=
  ∀ bs : List Byte, 3 ≤ bs.length → ∃ i rest, decode bs = .ok (i, rest) ∧ wellFormed i = true

/-- The length from the first byte alone (30 R153). -/
def Obligations.LengthFromFirstByte : Prop :=
  ∀ (b : Byte) (bs rest : List Byte) (i : Instr), decode (b :: bs) = .ok (i, rest) →
    i.length =
      if b = 0xCB ∨ b.toNat ∈ [0x06, 0x0E, 0x10, 0x16, 0x18, 0x1E, 0x20, 0x26, 0x28, 0x2E, 0x30, 0x36, 0x38, 0x3E, 0xC6, 0xCE,
          0xD6, 0xDE, 0xE0, 0xE6, 0xE8, 0xEE, 0xF0, 0xF6, 0xF8, 0xFE] then 2
      else if b.toNat ∈ [0x01, 0x08, 0x11, 0x21, 0x31, 0xC2, 0xC3, 0xC4, 0xCA, 0xCC, 0xCD, 0xD2, 0xD4, 0xDA, 0xDC, 0xEA,
          0xFA] then 3
      else 1

/-- Words written out from the rules' encodings, at least one for each family (40 to 46) and each format of 30 R140 (op8, op8_d8,
op8_a8, op8_e8, op8_x8, op8_d16, cb), decode to the instruction they stand for. -/
def Obligations.DecodeWords : Prop :=
  decode [0x41] = .ok (.ld_B_C, []) ∧ decode [0x3E, 0x3C] = .ok (.ld_A_n8 0x3C, []) ∧
  decode [0xE0, 0x46] = .ok (.ldh_MemA8_A 0x46, []) ∧ decode [0xF0, 0x0F] = .ok (.ldh_A_MemA8 0x0F, []) ∧
  decode [0x08, 0x00, 0xC1] = .ok (.ld_MemA16_SP 0xC100, []) ∧ decode [0xC5] = .ok (.push_BC, []) ∧
  decode [0x8B] = .ok (.adc_A_E, []) ∧ decode [0xFE, 0x40] = .ok (.cp_A_n8 0x40, []) ∧ decode [0x09] = .ok (.add_HL_BC, []) ∧
  decode [0xE8, 0xFE] = .ok (.add_SP_e8 0xFE, []) ∧ decode [0x1F] = .ok (.rra, []) ∧ decode [0xCB, 0x37] = .ok (.swap_A, []) ∧
  decode [0xCB, 0x7C] = .ok (.bit_7_H, []) ∧ decode [0x20, 0xFC] = .ok (.jr_NZ_e8 0xFC, []) ∧
  decode [0xCD, 0x00, 0x03] = .ok (.call_a16 0x0300, []) ∧ decode [0xEF] = .ok (.rst_28, []) ∧
  decode [0x10, 0x00] = .ok (.stop 0x00, []) ∧ decode [0x76] = .ok (.halt, []) ∧ decode [0xD3] = .ok (.unused_D3, [])

/-- The CB prefix is not an instruction: decode never gives its row, whose meaning writes nothing and costs 0; after it any
byte is a defined CB instruction of length 2, and 0xCB 0xCB is SET 1,E (30 R144, 46 R336). Constructor: cbPrefix. -/
def Obligations.CbPrefix : Prop :=
  (∀ (bs rest : List Byte) (i : Instr), decode bs = .ok (i, rest) → i ≠ .cbPrefix) ∧
  (∀ (sub : Byte) (rest : List Byte), ∃ i, decode (0xCB :: sub :: rest) = .ok (i, rest) ∧ encode i = [0xCB, sub]) ∧
  decode [0xCB, 0xCB] = .ok (.set_1_E, []) ∧
  (∀ s : State, exec .cbPrefix s = .next s)

/-! ### The step -/

/-- A step in the RUN state runs the decoded instruction: exec of it on the state with PC past its bytes, then the EI delay and
the interrupt check. With the HALT bug the opcode fetch does not advance PC: the byte at PC is the opcode and is read again as
the next byte, and the HALT bug is cleared (30 R146, R147; 46 R331). -/
def Obligations.StepRunsDecoded : Prop :=
  (∀ (s : State) (i : Instr) (rest : List Byte), s.running = true → s.haltBug = false →
      decode [s.busRead s.pc, s.busRead (s.pc + 1), s.busRead (s.pc + 2)] = .ok (i, rest) →
      step s =
        match exec i { s with pc := s.pc + BitVec.ofNat 16 i.length, haltBug := false } with
        | .next t =>
          .next ({ t with ime := t.ime || (s.eiPending && !i.isDi), eiPending := i.isEi } : State).interruptCheck
        | .fault r => .fault r
        | .refused r => .refused r) ∧
  (∀ (s : State) (i : Instr) (rest : List Byte), s.running = true → s.haltBug = true →
      decode [s.busRead s.pc, s.busRead s.pc, s.busRead (s.pc + 1)] = .ok (i, rest) →
      step s =
        match exec i { s with pc := s.pc + BitVec.ofNat 16 i.length - 1, haltBug := false } with
        | .next t =>
          .next ({ t with ime := t.ime || (s.eiPending && !i.isDi), eiPending := i.isEi } : State).interruptCheck
        | .fault r => .fault r
        | .refused r => .refused r)

/-- A HALTED step costs 4 ticks; with nothing pending it changes nothing else; a pending enabled request ends the stall, and
is dispatched in the same step exactly when IME = 1 (60 R414). A STOPPED step costs 4 ticks, runs no instruction and no
interrupt check, and ends the stall when a joypad line is low (60 R424). -/
def Obligations.StallSteps : Prop :=
  (∀ s : State, s.stopped = false → s.halted = true → s.ie &&& s.ifReg &&& 0x1F = 0 →
    step s = .next { s with cycles := s.cycles + 4 }) ∧
  (∀ s : State, s.stopped = false → s.halted = true → s.ie &&& s.ifReg &&& 0x1F ≠ 0 → s.ime = false →
    step s = .next { s with halted := false, cycles := s.cycles + 4 }) ∧
  (∀ s : State, s.stopped = false → s.halted = true → s.ie &&& s.ifReg &&& 0x1F ≠ 0 → s.ime = true →
    step s = .next (({ s with halted := false, cycles := s.cycles + 4 } : State).dispatch (lowestSource s.pending)
      |>.tick 20)) ∧
  (∀ s : State, s.stopped = true →
    step s = .next { s with stopped := decide (s.joypIn = 0xFF), cycles := s.cycles + 4 })

/-- The interrupt check: no dispatch without IME or without a pending enabled request; else exactly the lowest-numbered one is
dispatched, for 20 ticks (60 R405, R406, R407, R409). -/
def Obligations.InterruptCheck : Prop :=
  (∀ s : State, s.ime = false ∨ s.ie &&& s.ifReg &&& 0x1F = 0 → s.interruptCheck = s) ∧
  (∀ (s : State) (k : Nat), k < 5 → s.ime = true → s.ie.getLsbD k = true → s.ifReg.getLsbD k = true →
    (∀ j, j < k → s.ie.getLsbD j = false ∨ s.ifReg.getLsbD j = false) →
    s.interruptCheck = { s.dispatch k with cycles := s.cycles + 20 })

/-- Dispatch of source k: the return address (PC, or PC - 1 with the HALT bug) is pushed, IME, ei_pending, halted and the HALT
bug are cleared, the serviced IF bit is cleared after the push, PC is the vector, and no other register changes (60 R408). -/
def Obligations.Dispatch : Prop :=
  ∀ (s : State) (k : Nat), k < 5 →
    ∃ t u : State, s.dispatch k = t ∧
      u = Pushed { s with haltBug := false } (if s.haltBug then s.pc - 1 else s.pc) ∧
      t = { u with
        ime := false, eiPending := false, halted := false, pc := BitVec.ofNat 16 (0x40 + 8 * k), io := t.io } ∧
      (∀ p : BitVec 7, p ≠ 0x0F → t.port p = u.port p) ∧
      (∀ j, j < 8 → t.ifReg.getLsbD j = (decide (j ≠ k) && u.ifReg.getLsbD j)) ∧
      t.sp = s.sp - 2 ∧ t.af = s.af ∧ t.bc = s.bc ∧ t.de = s.de ∧ t.hl = s.hl ∧ t.haltBug = false ∧ t.cycles = s.cycles

/-- EI takes effect after the next instruction. Whatever instruction i the step runs: after its action and before the
interrupt check of the same step, IME is set if `ei_pending` was 1 and i is not DI, and is else what the action left; and
`ei_pending` is 1 exactly if i is EI. So EI itself leaves IME, but a second EI sets it, and no interrupt is dispatched at the
end of an EI unless IME was 1 or an EI was pending; NOP shows IME set, DI shows the pending EI cancelled. HALT right after EI
with an enabled request pending: the same step sets IME and dispatches the lowest source, pushing the address of the HALT
itself and clearing only that IF bit (60 R410, R411, R415; 46 R331, R333, R334). -/
def Obligations.EiDelay : Prop :=
  (∀ (s u : State) (i : Instr) (rest : List Byte), s.running = true → s.haltBug = false →
    decode [s.busRead s.pc, s.busRead (s.pc + 1), s.busRead (s.pc + 2)] = .ok (i, rest) →
    exec i { s with pc := s.pc + BitVec.ofNat 16 i.length, haltBug := false } = .next u →
    step s = .next ({ u with
      ime := u.ime || (s.eiPending && decide (i ≠ .di)), eiPending := decide (i = .ei) } : State).interruptCheck) ∧
  (∀ (s u : State) (i : Instr) (rest : List Byte), s.running = true → s.haltBug = true →
    decode [s.busRead s.pc, s.busRead s.pc, s.busRead (s.pc + 1)] = .ok (i, rest) →
    exec i { s with pc := s.pc + BitVec.ofNat 16 i.length - 1, haltBug := false } = .next u →
    step s = .next ({ u with
      ime := u.ime || (s.eiPending && decide (i ≠ .di)), eiPending := decide (i = .ei) } : State).interruptCheck) ∧
  (∀ s : State, s.running = true → s.haltBug = false → s.busRead s.pc = 0xFB →
    step s = .next ({ s with
      pc := s.pc + 1, ime := s.ime || s.eiPending, eiPending := true, cycles := s.cycles + 4 } : State).interruptCheck) ∧
  (∀ s : State, s.running = true → s.haltBug = false → s.busRead s.pc = 0xFB → s.ime = false → s.eiPending = false →
    step s = .next { s with pc := s.pc + 1, eiPending := true, cycles := s.cycles + 4 }) ∧
  (∀ s : State, s.running = true → s.haltBug = false → s.busRead s.pc = 0x00 → s.eiPending = true → s.pending = 0 →
    step s = .next { s with pc := s.pc + 1, ime := true, eiPending := false, cycles := s.cycles + 4 }) ∧
  (∀ s : State, s.running = true → s.haltBug = false → s.busRead s.pc = 0xF3 →
    step s = .next { s with pc := s.pc + 1, ime := false, eiPending := false, cycles := s.cycles + 4 }) ∧
  (∀ s : State, s.running = true → s.haltBug = false → s.ime = false → s.eiPending = true → s.pending ≠ 0 →
      s.busRead s.pc = 0x76 →
      ∃ t u : State, step s = .next t ∧
        u = Pushed { s with pc := s.pc + 1, ime := true, eiPending := false, cycles := s.cycles + 4, haltBug := false } s.pc ∧
        t = { u with
          ime := false, pc := BitVec.ofNat 16 (0x40 + 8 * lowestSource s.pending), cycles := s.cycles + 24, io := t.io } ∧
        (∀ p : BitVec 7, p ≠ 0x0F → t.port p = u.port p) ∧
        (∀ j, j < 8 → t.ifReg.getLsbD j = (decide (j ≠ lowestSource s.pending) && u.ifReg.getLsbD j)))

/-- Every step has a next state, except on an unused opcode under P_UNUSED_OPCODE = LOCKUP, which is the one stop: no
instruction raises anything (60 R400, 46 R335). -/
def Obligations.StepProgress : Prop :=
  ∀ s : State,
    (∃ t, step s = .next t) ∨
    (step s = .fault .lockup ∧ s.params.unusedOpcode = .lockup ∧ s.running = true ∧
      (s.busRead s.pc).toNat ∈ [0xD3, 0xDB, 0xDD, 0xE3, 0xE4, 0xEB, 0xEC, 0xED, 0xF4, 0xFC, 0xFD])

/-- Every step keeps the invariant: canonical memories of their sizes, F's low nibble 0, one engine state, bank registers
within their controller, hdma_dst a VRAM block (10 R22, R38, R39, R42). -/
def Obligations.StepKeepsInv : Prop := ∀ s t : State, s.Inv → step s = .next t → t.Inv

/-- The invariant holds at State.reset and after every reset, and every host event keeps it; so it holds in every reachable
state once each step keeps it. -/
def Obligations.ResetInv : Prop :=
  State.reset.Inv ∧
  (∀ (img : CartImage) (boot : Option (List Host.Cell)) (profile : ResetProfile) (params : Params) (d : Draw) (joyp : Byte)
    (s : State), reset img boot profile params d joyp = .ok s → s.Inv) ∧
  (∀ (ev : HostEvent) (s t : State), s.Inv → hostEvent ev s = .next t → t.Inv)

/-- No step changes the cartridge or the boot image, and once the boot ROM is unmapped it stays unmapped (10 R37, R38, R40; 20
R70, R93). No step changes the parameters, which 00 R10 makes arguments of the model and log 4 (DESIGN CHOICE) holds in the
state, or the joypad lines, a host input that changes only between steps (00 R11, R13; 20 R119). -/
def Obligations.Constants : Prop :=
  ∀ s t : State, step s = .next t →
    t.cart = s.cart ∧ t.bootRom = s.bootRom ∧ t.params = s.params ∧ t.joypIn = s.joypIn ∧
    (s.bootMapped = false → t.bootMapped = false)

/-- Every instruction charges the count of its table row: the alternate one exactly when it is conditional and its condition
holds (30 R145, R148; 70 R462). -/
def Obligations.CyclesTable : Prop :=
  ∀ (i : Instr) (s t : State), exec i s = .next t → t.cycles = s.cycles + i.cycles (takenIn i s)

/-- Which actions write the engine's bits: IME only DI and RETI (EI acts through the step), ei_pending none, halted and the
HALT bug only HALT, stopped and double_speed only STOP (10 R27, R31-R34). -/
def Obligations.EngineBitWriters : Prop :=
  ∀ (i : Instr) (s t : State), exec i s = .next t →
    (i ≠ .di → i ≠ .reti → t.ime = s.ime) ∧
    t.eiPending = s.eiPending ∧
    (i ≠ .halt → t.halted = s.halted ∧ t.haltBug = s.haltBug) ∧
    ((∀ x, i ≠ .stop x) → t.stopped = s.stopped ∧ t.doubleSpeed = s.doubleSpeed)

/-- Which instructions write F: those of `flagOpcode`, and the CB rotates, shifts and BIT, whose second byte is below
0x80. Every other instruction leaves F (10 R23, R26; 40-46). -/
def Obligations.FlagWriters : Prop :=
  ∀ (i : Instr) (s t : State) (o : Byte) (bs : List Byte), exec i s = .next t → encode i = o :: bs →
    flagOpcode o = false → (o = 0xCB → ∀ sub ∈ bs, 0x80 ≤ sub.toNat) → t.f = s.f

/-- A form that stores nothing leaves every memory, port and bank register, so every byte reads as before (but KEY1 at 0xFF4D
after an armed STOP). Here `stores` gives the addresses a form stores to (20 R67, R68; 40-46). -/
def Obligations.NoStoreFrame : Prop :=
  ∀ (i : Instr) (s t : State), exec i s = .next t → stores i s = [] →
    t.wram = s.wram ∧ t.vram = s.vram ∧ t.oam = s.oam ∧ t.hram = s.hram ∧ t.bgPal = s.bgPal ∧ t.objPal = s.objPal ∧
    t.eram = s.eram ∧ t.io = s.io ∧ t.ie = s.ie ∧ t.bootMapped = s.bootMapped ∧ t.romBank = s.romBank ∧
    t.ramBank = s.ramBank ∧ t.ramEnable = s.ramEnable ∧ t.mbc1Mode = s.mbc1Mode ∧ t.hdmaSrc = s.hdmaSrc ∧
    t.hdmaDst = s.hdmaDst ∧ t.hdmaActive = s.hdmaActive ∧ t.hdmaBlocks = s.hdmaBlocks ∧
    (∀ a : Word, (a = 0xFF4D → ∀ x, i ≠ .stop x) → t.busRead a = s.busRead a)

/-- A form that stores, to addresses whose writes only store the byte, leaves every byte as it was whose storage cell is not
that of an address stored to (20 R67, R71-R77, R81, R82, R111; 40-46). -/
def Obligations.StoreFrame : Prop :=
  ∀ (i : Instr) (s t : State), exec i s = .next t → (∀ a ∈ stores i s, plainRegion (resolve a) = true) →
    ∀ b : Word, (∀ a ∈ stores i s, s.cellOf a ≠ s.cellOf b) → (b = 0xFF4D → ∀ x, i ≠ .stop x) → t.busRead b = s.busRead b

/-! ### Memory -/

/-- The region table passes its checks, and every address lies in exactly one entry, which is the one the router takes
(20 R60, R61). -/
def Obligations.RegionTable : Prop :=
  tableValid regionTable = true ∧
  ∀ a : Word, ∃ e ∈ regionTable, e.first ≤ a.toNat ∧ a.toNat ≤ e.last ∧ e.id = resolve a ∧
    ∀ e' ∈ regionTable, e'.first ≤ a.toNat → a.toNat ≤ e'.last → e' = e

/-- A read of plain storage returns the last byte written to it: VRAM, WRAM, echo RAM, OAM, HRAM, IE, and external RAM while it
is enabled (20 R71, R73, R74, R76, R77, R81, R82, R111, R114). -/
def Obligations.ReadAfterWrite : Prop :=
  ∀ (s : State) (a : Word) (v : Byte), s.Inv →
    resolve a ∈ [.vram, .wram0, .wramX, .echo, .oam, .hram, .ie] ∨
      (resolve a = .eram ∧ s.cart.kind ≠ .romOnly ∧ s.cart.ramSize ≠ 0 ∧ s.ramEnable = true) →
    (s.busWrite a v).busRead a = v

/-- Echo RAM shows WRAM at the address less 0x2000, for reads and writes; 0xD000-0xDFFF shows the WRAM bank SVBK's low 3 bits
select, 0 selecting bank 1; the bank is taken at each access (20 R74, R75, R76). -/
def Obligations.WramWindows : Prop :=
  (∀ (s : State) (a : Word) (v : Byte), 0xE000 ≤ a.toNat → a.toNat ≤ 0xFDFF →
    s.busRead a = s.busRead (a - 0x2000) ∧ s.busWrite a v = s.busWrite (a - 0x2000) v) ∧
  (∀ (s : State) (v : Byte) (k : Nat), k < 0x1000 →
    (s.busWrite 0xFF70 v).busRead 0xFF70 = v ∧
    (s.busWrite 0xFF70 v).busRead (0xD000 + BitVec.ofNat 16 k) =
      s.wram.read ((if v.toNat % 8 = 0 then 1 else v.toNat % 8) * 0x1000 + k))

/-- What each window of plain storage shows, and where a write to it goes: VRAM the bank VBK bit 0 selects, 0xC000 WRAM bank
0, 0xD000 the WRAM bank SVBK's low 3 bits select (0 selecting bank 1), OAM, HRAM and IE themselves. VBK is stored whole and
read back, and the next access sees the bank it selects (20 R71, R73, R74, R77, R81, R82, R95). -/
def Obligations.StorageWindows : Prop :=
  (∀ (s : State) (v : Byte) (k j : Nat), k < 0x2000 → j = (s.port 0x4F).toNat % 2 * 0x2000 + k →
    s.busRead (0x8000 + BitVec.ofNat 16 k) = s.vram.read j ∧
    s.busWrite (0x8000 + BitVec.ofNat 16 k) v = { s with vram := s.vram.write j v }) ∧
  (∀ (s : State) (v : Byte) (k : Nat), k < 0x2000 →
    (s.busWrite 0xFF4F v).busRead 0xFF4F = v ∧
    (s.busWrite 0xFF4F v).busRead (0x8000 + BitVec.ofNat 16 k) = s.vram.read (v.toNat % 2 * 0x2000 + k)) ∧
  (∀ (s : State) (v : Byte) (k : Nat), k < 0x1000 →
    s.busRead (0xC000 + BitVec.ofNat 16 k) = s.wram.read k ∧
    s.busWrite (0xC000 + BitVec.ofNat 16 k) v = { s with wram := s.wram.write k v }) ∧
  (∀ (s : State) (v : Byte) (k j : Nat), k < 0x1000 →
    j = (if (s.port 0x70).toNat % 8 = 0 then 1 else (s.port 0x70).toNat % 8) * 0x1000 + k →
    s.busRead (0xD000 + BitVec.ofNat 16 k) = s.wram.read j ∧
    s.busWrite (0xD000 + BitVec.ofNat 16 k) v = { s with wram := s.wram.write j v }) ∧
  (∀ (s : State) (v : Byte) (k : Nat), k < 160 →
    s.busRead (0xFE00 + BitVec.ofNat 16 k) = s.oam.read k ∧
    s.busWrite (0xFE00 + BitVec.ofNat 16 k) v = { s with oam := s.oam.write k v }) ∧
  (∀ (s : State) (v : Byte) (k : Nat), k < 127 →
    s.busRead (0xFF80 + BitVec.ofNat 16 k) = s.hram.read k ∧
    s.busWrite (0xFF80 + BitVec.ofNat 16 k) v = { s with hram := s.hram.write k v }) ∧
  (∀ (s : State) (v : Byte), s.busRead 0xFFFF = s.ie ∧ s.busWrite 0xFFFF v = { s with ie := v })

/-- Writes to the ROM window change one bank register or nothing, by the kind of controller (20 R70, R100-R104, R106-R109). -/
def Obligations.MbcWrites : Prop :=
  ∀ (s : State) (a : Word) (v : Byte), a.toNat < 0x8000 →
    (s.cart.kind = .romOnly → s.busWrite a v = s) ∧
    (s.cart.kind ≠ .romOnly → a.toNat < 0x2000 → s.busWrite a v = { s with ramEnable := decide (v.toNat % 16 = 10) }) ∧
    (s.cart.kind = .mbc1 → 0x2000 ≤ a.toNat → a.toNat < 0x4000 → ∃ r, s.busWrite a v = { s with romBank := r } ∧
      r.toNat = s.romBank.toNat / 32 % 4 * 32 + (if v.toNat % 32 = 0 then 1 else v.toNat % 32)) ∧
    (s.cart.kind = .mbc1 → 0x4000 ≤ a.toNat → a.toNat < 0x6000 → s.mbc1Mode = .rom →
      ∃ r, s.busWrite a v = { s with romBank := r } ∧ r.toNat = v.toNat % 4 * 32 + s.romBank.toNat % 32) ∧
    (s.cart.kind = .mbc1 → 0x4000 ≤ a.toNat → a.toNat < 0x6000 → s.mbc1Mode = .ram →
      ∃ r, s.busWrite a v = { s with ramBank := r } ∧ r.toNat = v.toNat % 4) ∧
    (s.cart.kind = .mbc1 → 0x6000 ≤ a.toNat →
      s.busWrite a v = { s with mbc1Mode := if v.toNat % 2 = 1 then .ram else .rom }) ∧
    (s.cart.kind = .mbc5 → 0x2000 ≤ a.toNat → a.toNat < 0x3000 →
      ∃ r, s.busWrite a v = { s with romBank := r } ∧ r.toNat = s.romBank.toNat / 256 * 256 + v.toNat) ∧
    (s.cart.kind = .mbc5 → 0x3000 ≤ a.toNat → a.toNat < 0x4000 →
      ∃ r, s.busWrite a v = { s with romBank := r } ∧ r.toNat = v.toNat % 2 * 256 + s.romBank.toNat % 256) ∧
    (s.cart.kind = .mbc5 → 0x4000 ≤ a.toNat → a.toNat < 0x6000 →
      ∃ r, s.busWrite a v = { s with ramBank := r } ∧ r.toNat = v.toNat % 16) ∧
    (s.cart.kind = .mbc5 → 0x6000 ≤ a.toNat → s.busWrite a v = s)

/-- Reads of the ROM window: the boot image where it is overlaid, else cartridge bank 0 below 0x4000 and the selected bank,
modulo the bank count, above (20 R70, R93, R100, R105, R110). -/
def Obligations.RomReads : Prop :=
  (∀ (s : State) (image : Mem) (a : Word), s.bootMapped = true → s.bootRom = some image →
    (a.toNat < 0x100 ∨ (0x200 ≤ a.toNat ∧ a.toNat < 0x900)) → s.busRead a = image.read a.toNat) ∧
  (∀ (s : State) (a : Word), s.bootMapped = false ∨ (0x100 ≤ a.toNat ∧ (a.toNat < 0x200 ∨ 0x900 ≤ a.toNat)) →
    a.toNat < 0x8000 →
    s.busRead a =
      if s.cart.kind = .romOnly ∨ a.toNat < 0x4000 then s.cart.rom.read a.toNat
      else s.cart.rom.read (s.romBank.toNat % s.cart.romBanks * 0x4000 + (a.toNat - 0x4000)))

/-- Selecting ROM bank n + k of an n-bank cartridge reads the same bytes as selecting bank k, and no read is out of bounds
(20 R112). -/
def Obligations.BankClamp : Prop :=
  (∀ (s : State) (r r' : BitVec 9) (a : Word), s.cart.kind ≠ .romOnly → r'.toNat = r.toNat + s.cart.romBanks →
    0x4000 ≤ a.toNat → a.toNat < 0x8000 →
    ({ s with romBank := r' } : State).busRead a = ({ s with romBank := r } : State).busRead a) ∧
  (∀ (s : State) (a : Word), s.Inv → a.toNat < 0x8000 → s.romIndex a.toNat < s.cart.romBanks * 0x4000)

/-- External RAM: closed, it reads 0xFF and ignores writes; open, it shows the selected bank, modulo the bank count and the
size (20 R72, R100, R111). The not-usable region: writes do nothing, reads give 0xFF in PPU modes 2 and 3, else
P_UNUSABLE_READ, by default the high nibble of the low address byte repeated (20 R78, R79). -/
def Obligations.EramAndUnusable : Prop :=
  (∀ (s : State) (a : Word) (v : Byte), 0xA000 ≤ a.toNat → a.toNat ≤ 0xBFFF →
    (s.cart.kind = .romOnly ∨ s.cart.ramSize = 0 ∨ s.ramEnable = false) → s.busRead a = 0xFF ∧ s.busWrite a v = s) ∧
  (∀ (s : State) (a : Word) (v : Byte), 0xA000 ≤ a.toNat → a.toNat ≤ 0xBFFF →
    s.cart.kind ≠ .romOnly → s.cart.ramSize ≠ 0 → s.ramEnable = true →
    ∃ off, off = (s.ramBank.toNat % max 1 (s.cart.ramSize / 8192) * 0x2000 + (a.toNat - 0xA000)) % s.cart.ramSize ∧
      s.busRead a = s.eram.read off ∧ s.busWrite a v = { s with eram := s.eram.write off v }) ∧
  (∀ (s : State) (a : Word) (v : Byte), 0xFEA0 ≤ a.toNat → a.toNat ≤ 0xFEFF →
    s.busWrite a v = s ∧
    (2 ≤ (s.port 0x41).toNat % 4 → s.busRead a = 0xFF) ∧
    ((s.port 0x41).toNat % 4 < 2 → s.params.unusableRead = .pattern →
      (s.busRead a).toNat = a.toNat / 16 % 16 * 17) ∧
    (∀ bytes, (s.port 0x41).toNat % 4 < 2 → s.params.unusableRead = .table bytes →
      bytes[(s.port 0x41).toNat % 4 * 96 + (a.toNat - 0xFEA0)]? = some (s.busRead a)))

/-- P1: a write changes only the selector bits 5:4; a read gives 1s in 7:6, the selectors, and each input line low only if a
selected group has it low (20 R83, R84). DIV: any write stores 0 (R85). IF: a CPU write is ORed in, or replaces, by
P_IF_WRITE (R88). KEY1: a write sets only the armed bit; a read gives speed, ones, armed (R94). Boot disable: the byte is
stored and 0x11 unmaps (R93). -/
def Obligations.PortRules : Prop :=
  (∀ (s : State) (v : Byte), ∃ w : Byte, s.busWrite 0xFF00 v = s.setPort 0x00 w ∧
    ∀ k, k < 8 → w.getLsbD k = if k = 4 ∨ k = 5 then v.getLsbD k else (s.port 0x00).getLsbD k) ∧
  (∀ (s : State) (k : Nat), k < 8 → (s.busRead 0xFF00).getLsbD k =
    if 6 ≤ k then true
    else if 4 ≤ k then (s.port 0x00).getLsbD k
    else ((s.port 0x00).getLsbD 4 || s.joypIn.getLsbD k) && ((s.port 0x00).getLsbD 5 || s.joypIn.getLsbD (k + 4))) ∧
  (∀ (s : State) (v : Byte), s.busWrite 0xFF04 v = s.setPort 0x04 0x00 ∧ (s.busWrite 0xFF04 v).busRead 0xFF04 = 0x00) ∧
  (∀ (s : State) (v : Byte), s.busRead 0xFF0F = s.ifReg ∧
    s.busWrite 0xFF0F v =
      s.setPort 0x0F (if s.params.ifWrite = .or then s.ifReg ||| v else v)) ∧
  (∀ (s : State) (v : Byte), s.busWrite 0xFF4D v = { s with key1Armed := v.getLsbD 0 } ∧
    (s.busRead 0xFF4D).toNat = s.doubleSpeed.toNat * 128 + 126 + s.key1Armed.toNat) ∧
  (∀ (s : State) (v : Byte),
    s.busWrite 0xFF50 v = { s.setPort 0x50 v with bootMapped := if v = 0x11 then false else s.bootMapped })

/-- Every port without a rule of its own is a plain byte: a write stores it and a read returns it, and no other port changes;
SVBK, VBK, STAT, DMA, HDMA1-4, BCPS, OCPS and the boot-disable port read back what was written (20 R80, R86, R89, R90, R93,
R95, R96, R98). -/
def Obligations.PlainPorts : Prop :=
  ∀ (s : State) (p : BitVec 7) (v : Byte), p.toNat ∉ [0x00, 0x04, 0x0F, 0x4D, 0x55, 0x69, 0x6B] →
    (s.busWrite (0xFF00 + p.setWidth 16) v).busRead (0xFF00 + p.setWidth 16) = v ∧
    (∀ q : BitVec 7, q ≠ p → (s.busWrite (0xFF00 + p.setWidth 16) v).port q = s.port q) ∧
    (p.toNat ∉ [0x46, 0x50] → s.busWrite (0xFF00 + p.setWidth 16) v = s.setPort p v)

/-- The palette data ports: a write goes to the entry the index register's bits 5:0 name and, when its bit 7 is set, steps the
index, 63 going to 0; a read gives the entry and steps nothing (20 R96, R97). -/
def Obligations.Palette : Prop :=
  (∀ (s : State) (v : Byte), ∃ w : Byte,
    s.busRead 0xFF69 = s.bgPal.read ((s.port 0x68).toNat % 64) ∧
    s.busWrite 0xFF69 v = { s.setPort 0x68 w with bgPal := s.bgPal.write ((s.port 0x68).toNat % 64) v } ∧
    ((s.port 0x68).getLsbD 7 = false → w = s.port 0x68) ∧
    ((s.port 0x68).getLsbD 7 = true →
      w.toNat = (s.port 0x68).toNat / 64 * 64 + ((s.port 0x68).toNat % 64 + 1) % 64)) ∧
  (∀ (s : State) (v : Byte), ∃ w : Byte,
    s.busRead 0xFF6B = s.objPal.read ((s.port 0x6A).toNat % 64) ∧
    s.busWrite 0xFF6B v = { s.setPort 0x6A w with objPal := s.objPal.write ((s.port 0x6A).toNat % 64) v } ∧
    ((s.port 0x6A).getLsbD 7 = false → w = s.port 0x6A) ∧
    ((s.port 0x6A).getLsbD 7 = true →
      w.toNat = (s.port 0x6A).toNat / 64 * 64 + ((s.port 0x6A).toNat % 64 + 1) % 64))

/-- OAM DMA: a write of page v to 0xFF46 stores v and copies the 160 bytes from v * 256 to OAM, as the router reads them, and
changes nothing else (20 R89). -/
def Obligations.OamDma : Prop :=
  ∀ (s : State) (v : Byte), s.Inv →
    ∃ t : State, s.busWrite 0xFF46 v = t ∧ t = { s.setPort 0x46 v with oam := t.oam } ∧
      ∀ k, k < 160 →
        t.busRead (0xFE00 + BitVec.ofNat 16 k) = (s.setPort 0x46 v).busRead (BitVec.ofNat 16 (v.toNat * 256 + k))

/-- HDMA5: bit 7 = 0 while a transfer is armed cancels it; bit 7 = 1 arms one; otherwise the blocks are copied at once from the
source HDMA1-2 give to the VRAM bank and place HDMA3-4 give (the bytes are stated for sources outside VRAM), hdma_src and
hdma_dst move past them, and HDMA5 reads 0xFF (20 R90, R91). -/
def Obligations.HdmaPort : Prop :=
  (∀ (s : State) (v : Byte), s.hdmaActive = true → v.getLsbD 7 = false →
    ∃ w : Byte, s.busWrite 0xFF55 v = { s.setPort 0x55 w with hdmaActive := false } ∧ w.toNat = 128 + s.hdmaBlocks.toNat) ∧
  (∀ (s : State) (v : Byte), v.getLsbD 7 = true →
    ∃ (src dst : Word) (n : BitVec 7) (w : Byte),
      s.busWrite 0xFF55 v =
        { s.setPort 0x55 w with hdmaSrc := src, hdmaDst := dst, hdmaBlocks := n, hdmaActive := true } ∧
      src.toNat = ((s.port 0x51).toNat * 256 + (s.port 0x52).toNat) / 16 * 16 ∧
      dst.toNat = 0x8000 + ((s.port 0x53).toNat * 256 + (s.port 0x54).toNat) % 0x2000 / 16 * 16 ∧
      n.toNat = v.toNat % 128 ∧ w.toNat = v.toNat % 128) ∧
  (∀ (s : State) (v : Byte), s.Inv → s.hdmaActive = false → v.getLsbD 7 = false →
    ∃ (src dst : Word) (len : Nat) (t : State),
      src.toNat = ((s.port 0x51).toNat * 256 + (s.port 0x52).toNat) / 16 * 16 ∧
      dst.toNat = 0x8000 + ((s.port 0x53).toNat * 256 + (s.port 0x54).toNat) % 0x2000 / 16 * 16 ∧
      len = (v.toNat % 128 + 1) * 16 ∧
      s.busWrite 0xFF55 v = t ∧
      t = { s.setPort 0x55 0xFF with
        hdmaSrc := src + BitVec.ofNat 16 len, hdmaDst := 0x8000 + BitVec.ofNat 16 ((dst.toNat + len) % 0x2000)
        hdmaActive := false, vram := t.vram } ∧
      ((∀ k, k < len → resolve (src + BitVec.ofNat 16 k) ≠ .vram) →
        (∀ k, k < len → t.vram.read (s.vramBank * 0x2000 + (dst.toNat + k) % 0x2000) = s.busRead (src + BitVec.ofNat 16 k)) ∧
        (∀ j, (∀ k, k < len → j ≠ s.vramBank * 0x2000 + (dst.toNat + k) % 0x2000) → t.vram.read j = s.vram.read j)))

/-- The HDMA copies for every source, VRAM among them: one byte after the other, each read through the router from the memory
the bytes before it left, and written to the selected VRAM bank with the destination wrapping inside it; 16 bytes at an HBlank
of an armed transfer, all blocks at once at a general-purpose write of HDMA5. `m k` is VRAM after k bytes (20 R91, R92). -/
def Obligations.HdmaCopyOrder : Prop :=
  (∀ s : State, s.hdmaActive = true → ∃ (t : State) (m : Nat → Mem), hostEvent .hblank s = .next t ∧
    m 0 = s.vram ∧ m 16 = t.vram ∧
    ∀ k, k < 16 → m (k + 1) =
      (m k).write ((s.port 0x4F).toNat % 2 * 0x2000 + (s.hdmaDst.toNat + k) % 0x2000)
        (({ s with vram := m k } : State).busRead (s.hdmaSrc + BitVec.ofNat 16 k))) ∧
  (∀ (s : State) (v : Byte), s.hdmaActive = false → v.getLsbD 7 = false →
    ∃ (src dst : Word) (m : Nat → Mem),
      src.toNat = ((s.port 0x51).toNat * 256 + (s.port 0x52).toNat) / 16 * 16 ∧
      dst.toNat = 0x8000 + ((s.port 0x53).toNat * 256 + (s.port 0x54).toNat) % 0x2000 / 16 * 16 ∧
      m 0 = s.vram ∧ m ((v.toNat % 128 + 1) * 16) = (s.busWrite 0xFF55 v).vram ∧
      ∀ k, k < (v.toNat % 128 + 1) * 16 → m (k + 1) =
        (m k).write ((s.port 0x4F).toNat % 2 * 0x2000 + (dst.toNat + k) % 0x2000)
          (({ s with vram := m k } : State).busRead (src + BitVec.ofNat 16 k)))

/-- The events that happen between steps, as the model has them, functions beside the step (log 9, DESIGN CHOICE):
request_interrupt(k) ORs one bit of IF, and is refused outside 0..4 (60 R403, R412); a device's port write stores the byte in
the port and changes nothing else, whatever the port (the model's choice, log 14); the joypad lines change (00 R11); an HBlank
does nothing without an armed transfer, and else copies one block of 16 bytes (the bytes are stated here for sources outside
VRAM, in HdmaCopyOrder for every source), moves hdma_src and hdma_dst past it, counts the block or ends the transfer after the
last one, and changes nothing else (20 R92). -/
def Obligations.HostEvents : Prop :=
  (∀ (s : State) (k : Nat), k < 5 → ∃ w : Byte, hostEvent (.requestInterrupt k) s = .next (s.setPort 0x0F w) ∧
    ∀ j, j < 8 → w.getLsbD j = (decide (j = k) || s.ifReg.getLsbD j)) ∧
  (∀ (s : State) (k : Nat), 5 ≤ k → hostEvent (.requestInterrupt k) s = .refused .interruptRequestOutOfRange) ∧
  (∀ (s : State) (p : BitVec 7) (v : Byte), hostEvent (.devicePortWrite p v) s = .next (s.setPort p v)) ∧
  (∀ (s : State) (lines : Byte), hostEvent (.setJoypad lines) s = .next { s with joypIn := lines }) ∧
  (∀ s : State, s.hdmaActive = false → hostEvent .hblank s = .next s) ∧
  (∀ s : State, s.Inv → s.hdmaActive = true → ∃ (t : State) (w : Byte), hostEvent .hblank s = .next t ∧
    t = { s.setPort 0x55 w with
      hdmaSrc := s.hdmaSrc + 16, hdmaDst := 0x8000 ||| BitVec.ofNat 16 ((s.hdmaDst.toNat + 16) % 0x2000)
      hdmaActive := decide (s.hdmaBlocks ≠ 0), hdmaBlocks := if s.hdmaBlocks = 0 then 0 else s.hdmaBlocks - 1
      vram := t.vram } ∧
    w.toNat = (if s.hdmaBlocks = 0 then 0xFF else s.hdmaBlocks.toNat - 1) ∧
    ((∀ k, k < 16 → resolve (s.hdmaSrc + BitVec.ofNat 16 k) ≠ .vram) →
      (∀ k, k < 16 →
        t.vram.read (s.vramBank * 0x2000 + (s.hdmaDst.toNat + k) % 0x2000) = s.busRead (s.hdmaSrc + BitVec.ofNat 16 k)) ∧
      (∀ j, (∀ k, k < 16 → j ≠ s.vramBank * 0x2000 + (s.hdmaDst.toNat + k) % 0x2000) → t.vram.read j = s.vram.read j)))

/-- What reset leaves, for every cartridge, parameter, draw and joypad input: the POST_BOOT and the BOOT_ROM column of 10 R58.
What the columns call a draw is the draw's own value, byte by byte (10 R59): the ports, the arrays, hdma_src and hdma_blocks,
and hdma_dst kept inside VRAM (log 13). ERAM and ROM are the loader's bytes, the cartridge's kind and sizes those of its header
bytes (20 R99), and the boot image, the parameters and the joypad lines those given (00 R10, R11). -/
def Obligations.ResetValues : Prop :=
  (∀ (img : CartImage) (boot : Option (List Host.Cell)) (params : Params) (d : Draw) (joyp : Byte) (s : State),
    reset img boot .postBoot params d joyp = .ok s →
    s.a = 0x11 ∧ s.f = 0x80 ∧ s.b = 0x00 ∧ s.c = 0x00 ∧ s.d = 0xFF ∧ s.e = 0x56 ∧ s.h = 0x00 ∧ s.l = 0x0D ∧
    s.sp = 0xFFFE ∧ s.pc = 0x0100 ∧ s.ifReg = 0xE1 ∧ s.bootMapped = false ∧ s.port 0x50 = 0x11) ∧
  (∀ (img : CartImage) (boot : Option (List Host.Cell)) (params : Params) (d : Draw) (joyp : Byte) (s : State),
    reset img boot .bootRom params d joyp = .ok s →
    s.f = loByte d.af &&& 0xF0 ∧ s.a = hiByte d.af ∧ s.bc = d.bc ∧ s.de = d.de ∧ s.hl = d.hl ∧ s.sp = d.sp ∧
    s.pc = 0x0000 ∧ s.ifReg = d.io[0x0F] ∧ s.bootMapped = true ∧ s.port 0x50 = 0x00) ∧
  (∀ (img : CartImage) (boot : Option (List Host.Cell)) (profile : ResetProfile) (params : Params) (d : Draw) (joyp : Byte)
    (s : State), reset img boot profile params d joyp = .ok s →
    s.ime = false ∧ s.eiPending = false ∧ s.halted = false ∧ s.haltBug = false ∧ s.stopped = false ∧
    s.doubleSpeed = false ∧ s.key1Armed = false ∧ s.cycles = 0 ∧ s.ie = 0x00 ∧
    (s.port 0x00).getLsbD 4 = false ∧ (s.port 0x00).getLsbD 5 = false ∧ s.port 0x70 = 0x00 ∧ s.port 0x4F = 0x00 ∧
    s.busRead 0xFF55 = 0xFF ∧ s.hdmaActive = false ∧ s.busRead 0xFF4D = 0x7E ∧
    s.romBank = 1 ∧ s.ramBank = 0 ∧ s.ramEnable = false ∧ s.mbc1Mode = .rom ∧
    s.eram = Mem.ofCells s.cart.ramSize img.eram ∧
    (∀ p : BitVec 7, p.toNat ∉ [0x00, 0x0F, 0x4F, 0x50, 0x55, 0x70] → s.port p = d.io[p.toNat]) ∧
    (∀ j, j < 8 → j ≠ 4 → j ≠ 5 → (s.port 0x00).getLsbD j = d.io[0x00].getLsbD j) ∧
    (∀ k, k < 0x8000 → s.wram.read k = lastByte d.wram k) ∧ (∀ k, k < 0x4000 → s.vram.read k = lastByte d.vram k) ∧
    (∀ k, k < 160 → s.oam.read k = lastByte d.oam k) ∧ (∀ k, k < 127 → s.hram.read k = lastByte d.hram k) ∧
    (∀ k, k < 64 → s.bgPal.read k = lastByte d.bgPal k ∧ s.objPal.read k = lastByte d.objPal k) ∧
    s.hdmaSrc = d.hdmaSrc ∧ s.hdmaBlocks = d.hdmaBlocks ∧ s.hdmaDst = 0x8000 ||| (d.hdmaDst &&& 0x1FF0) ∧
    (∀ k, k < s.cart.ramSize → s.eram.read k = lastByte img.eram k) ∧
    (∀ k, k < s.cart.romBanks * 0x4000 → s.cart.rom.read k = lastByte img.rom k) ∧
    (img.typeByte = 0x00 → s.cart.kind = .romOnly) ∧ (img.typeByte.toNat ∈ [0x01, 0x02, 0x03] → s.cart.kind = .mbc1) ∧
    (img.typeByte.toNat ∈ [0x19, 0x1A, 0x1B, 0x1C, 0x1D, 0x1E] → s.cart.kind = .mbc5) ∧
    s.cart.romBanks = 2 * 2 ^ img.romSizeByte.toNat ∧
    [0, 2048, 8192, 32768, 131072, 65536][img.ramSizeByte.toNat]? = some s.cart.ramSize ∧
    (boot = none → s.bootRom = none) ∧
    (∀ cells, boot = some cells → ∃ image, s.bootRom = some image ∧ ∀ k, k < 0x900 → image.read k = lastByte cells k) ∧
    s.params = params ∧ s.joypIn = joyp)

/-- Reset starts the machine exactly when the cartridge's type is supported, its sizes fit, and a boot image is there for the
BOOT_ROM profile; else there is no state (20 R60, R99; 70 R450, R453). -/
def Obligations.ResetStarts : Prop :=
  ∀ (img : CartImage) (boot : Option (List Host.Cell)) (profile : ResetProfile) (params : Params) (d : Draw) (joyp : Byte),
    (∃ s, reset img boot profile params d joyp = .ok s) ↔
      img.typeByte.toNat ∈ [0x00, 0x01, 0x02, 0x03, 0x19, 0x1A, 0x1B, 0x1C, 0x1D, 0x1E] ∧
      img.romSizeByte.toNat ≤ 8 ∧ img.ramSizeByte.toNat ≤ 5 ∧ img.romLength = 2 * 2 ^ img.romSizeByte.toNat * 16384 ∧
      (img.typeByte = 0x00 → img.romSizeByte = 0 ∧ img.ramSizeByte = 0) ∧
      (profile = .bootRom → boot.isSome = true)

/-! ### 8-bit loads -/

/-- `LD r,r'`, `LD r,(HL)`, `LD r,n8`: one register is written, no flag, 4, 8 and 8 ticks (40 R201, R202, R203). Constructors
ld_r_r' and ld_r_MemHL for r, r' in B C D E H L A (ld_B_B ... ld_A_A, ld_B_MemHL ... ld_A_MemHL) and ld_B_n8, ld_C_n8, ld_D_n8,
ld_E_n8, ld_H_n8, ld_L_n8, ld_A_n8. -/
def Obligations.LoadRegister : Prop :=
  (∀ (dst src : R8) (s : State), dst ≠ .mHL →
    ∃ i t, decode [byte (0x40 + 8 * dst.index + src.index)] = .ok (i, []) ∧ exec i s = .next t ∧
      WritesR8 s t dst (s.r8 src) ∧ t.f = s.f ∧ t.cycles = s.cycles + (if src = .mHL then 8 else 4)) ∧
  (∀ (dst : R8) (n : Byte) (s : State), dst ≠ .mHL →
    ∃ i t, decode [byte (0x06 + 8 * dst.index), n] = .ok (i, []) ∧ exec i s = .next t ∧
      WritesR8 s t dst n ∧ t.f = s.f ∧ t.cycles = s.cycles + 8)

/-- `LD (HL),r` and `LD (HL),n8`: one bus write at HL, no register, no flag, 8 and 12 ticks (40 R204, R205). Constructors
ld_MemHL_B, ld_MemHL_C, ld_MemHL_D, ld_MemHL_E, ld_MemHL_H, ld_MemHL_L, ld_MemHL_A, ld_MemHL_n8. -/
def Obligations.StoreAtHl : Prop :=
  (∀ (src : R8) (s : State), src ≠ .mHL →
    ∃ i, decode [byte (0x70 + src.index)] = .ok (i, []) ∧
      exec i s = .next { s.busWrite s.hl (s.r8 src) with cycles := s.cycles + 8 }) ∧
  (∀ (n : Byte) (s : State),
    ∃ i, decode [0x36, n] = .ok (i, []) ∧ exec i s = .next { s.busWrite s.hl n with cycles := s.cycles + 12 })

/-- Loads of A from memory at BC, DE, a16, 0xFF00 + a8, 0xFF00 + C, and at HL with HL stepped by one after the read; nothing
else changes (40 R206, R208, R209, R212, R214, R216). Constructors ld_A_MemBC, ld_A_MemDE, ld_A_MemA16, ldh_A_MemA8, ld_A_MemC,
ld_A_MemHLInc, ld_A_MemHLDec. -/
def Obligations.LoadA : Prop :=
  ∀ s : State,
    (∃ i, decode [0x0A] = .ok (i, []) ∧
      exec i s = .next { s with af := joinBytes (s.busRead s.bc) s.f, cycles := s.cycles + 8 }) ∧
    (∃ i, decode [0x1A] = .ok (i, []) ∧
      exec i s = .next { s with af := joinBytes (s.busRead s.de) s.f, cycles := s.cycles + 8 }) ∧
    (∀ lo hi : Byte, ∃ i, decode [0xFA, lo, hi] = .ok (i, []) ∧
      exec i s = .next { s with af := joinBytes (s.busRead (joinBytes hi lo)) s.f, cycles := s.cycles + 16 }) ∧
    (∀ a8 : Byte, ∃ i, decode [0xF0, a8] = .ok (i, []) ∧
      exec i s = .next { s with af := joinBytes (s.busRead (0xFF00 + a8.setWidth 16)) s.f, cycles := s.cycles + 12 }) ∧
    (∃ i, decode [0xF2] = .ok (i, []) ∧
      exec i s = .next { s with af := joinBytes (s.busRead (0xFF00 + s.c.setWidth 16)) s.f, cycles := s.cycles + 8 }) ∧
    (∃ i, decode [0x2A] = .ok (i, []) ∧
      exec i s = .next { s with af := joinBytes (s.busRead s.hl) s.f, hl := s.hl + 1, cycles := s.cycles + 8 }) ∧
    (∃ i, decode [0x3A] = .ok (i, []) ∧
      exec i s = .next { s with af := joinBytes (s.busRead s.hl) s.f, hl := s.hl - 1, cycles := s.cycles + 8 })

/-- Stores of A to memory at BC, DE, a16, 0xFF00 + a8, 0xFF00 + C, and at HL with HL stepped by one after the write; one bus
write, no flag (40 R207, R210, R211, R213, R215, R217). Constructors ld_MemBC_A, ld_MemDE_A, ld_MemA16_A, ldh_MemA8_A,
ld_MemC_A, ld_MemHLInc_A, ld_MemHLDec_A. -/
def Obligations.StoreA : Prop :=
  ∀ s : State,
    (∃ i, decode [0x02] = .ok (i, []) ∧ exec i s = .next { s.busWrite s.bc s.a with cycles := s.cycles + 8 }) ∧
    (∃ i, decode [0x12] = .ok (i, []) ∧ exec i s = .next { s.busWrite s.de s.a with cycles := s.cycles + 8 }) ∧
    (∀ lo hi : Byte, ∃ i, decode [0xEA, lo, hi] = .ok (i, []) ∧
      exec i s = .next { s.busWrite (joinBytes hi lo) s.a with cycles := s.cycles + 16 }) ∧
    (∀ a8 : Byte, ∃ i, decode [0xE0, a8] = .ok (i, []) ∧
      exec i s = .next { s.busWrite (0xFF00 + a8.setWidth 16) s.a with cycles := s.cycles + 12 }) ∧
    (∃ i, decode [0xE2] = .ok (i, []) ∧
      exec i s = .next { s.busWrite (0xFF00 + s.c.setWidth 16) s.a with cycles := s.cycles + 8 }) ∧
    (∃ i, decode [0x22] = .ok (i, []) ∧
      exec i s = .next { s.busWrite s.hl s.a with hl := s.hl + 1, cycles := s.cycles + 8 }) ∧
    (∃ i, decode [0x32] = .ok (i, []) ∧
      exec i s = .next { s.busWrite s.hl s.a with hl := s.hl - 1, cycles := s.cycles + 8 })

/-! ### 16-bit loads, the stack, 16-bit arithmetic -/

/-- `LD (a16),SP`: SP's low byte to a16, then its high byte to a16 + 1; nothing else (41 R231). PUSH stores the pair's high
byte at SP-1, then its low byte at SP-2; POP reads the low byte at SP and the high byte at SP+1, and into AF drops F's low
nibble; no other register or flag (41 R233, R234, R235; 20 R66). Constructors ld_MemA16_SP, push_BC, push_DE, push_HL, push_AF,
pop_BC, pop_DE, pop_HL, pop_AF. -/
def Obligations.StackAndStoreSp : Prop :=
  (∀ (lo hi : Byte) (s : State), ∃ i, decode [0x08, lo, hi] = .ok (i, []) ∧
      exec i s =
        .next { (s.busWrite (joinBytes hi lo) (loByte s.sp)).busWrite (joinBytes hi lo + 1) (hiByte s.sp) with
          cycles := s.cycles + 20 }) ∧
  (∀ (p : R16Stk) (s : State), ∃ i, decode [byte (0xC5 + 16 * p.index)] = .ok (i, []) ∧
    exec i s = .next { Pushed s (s.r16stk p) with cycles := s.cycles + 16 }) ∧
  (∀ s : State, ∃ v : Word, v = joinBytes (s.busRead (s.sp + 1)) (s.busRead s.sp) ∧
    (∃ i, decode [0xC1] = .ok (i, []) ∧ exec i s = .next { s with bc := v, sp := s.sp + 2, cycles := s.cycles + 12 }) ∧
    (∃ i, decode [0xD1] = .ok (i, []) ∧ exec i s = .next { s with de := v, sp := s.sp + 2, cycles := s.cycles + 12 }) ∧
    (∃ i, decode [0xE1] = .ok (i, []) ∧ exec i s = .next { s with hl := v, sp := s.sp + 2, cycles := s.cycles + 12 }) ∧
    (∃ i, decode [0xF1] = .ok (i, []) ∧
      exec i s = .next { s with
        af := joinBytes (s.busRead (s.sp + 1)) (s.busRead s.sp &&& 0xF0), sp := s.sp + 2, cycles := s.cycles + 12 }))

/-- On plain memory a push followed by a pop restores the value and SP: the two pushed bytes are where the pop reads them
(20 R66). -/
def Obligations.StackRoundTrip : Prop :=
  ∀ (s : State) (v : Word), s.Inv →
    (∀ a ∈ [s.sp - 1, s.sp - 2], resolve a ∈ [.vram, .wram0, .wramX, .echo, .oam, .hram, .ie]) →
    s.cellOf (s.sp - 1) ≠ s.cellOf (s.sp - 2) →
    (Pushed s v).sp + 2 = s.sp ∧
    joinBytes ((Pushed s v).busRead ((Pushed s v).sp + 1)) ((Pushed s v).busRead (Pushed s v).sp) = v

/-- `LD rr,n16`, `LD SP,HL`, `INC rr`, `DEC rr` write one 16-bit register and no flag; `ADD HL,rr` writes HL, clears N, takes H
from bit 11 and C from bit 15 and keeps Z (41 R230, R232; 43 R280, R281, R282). Constructors ld_rr_n16, inc_rr, dec_rr,
add_HL_rr for rr in BC DE HL SP, and ld_SP_HL. -/
def Obligations.Reg16 : Prop :=
  (∀ (p : R16) (lo hi : Byte) (s : State), ∃ i t, decode [byte (0x01 + 16 * p.index), lo, hi] = .ok (i, []) ∧
    exec i s = .next t ∧ WritesR16 s t p (joinBytes hi lo) ∧ t.f = s.f ∧ t.cycles = s.cycles + 12) ∧
  (∀ s : State, ∃ i t, decode [0xF9] = .ok (i, []) ∧ exec i s = .next t ∧ WritesR16 s t .sp s.hl ∧ t.f = s.f ∧
    t.cycles = s.cycles + 8) ∧
  (∀ (p : R16) (s : State), ∃ i t, decode [byte (0x03 + 16 * p.index)] = .ok (i, []) ∧ exec i s = .next t ∧
    WritesR16 s t p (BitVec.ofNat 16 ((s.r16 p).toNat + 1)) ∧ t.f = s.f ∧ t.cycles = s.cycles + 8) ∧
  (∀ (p : R16) (s : State), ∃ i t, decode [byte (0x0B + 16 * p.index)] = .ok (i, []) ∧ exec i s = .next t ∧
    WritesR16 s t p (BitVec.ofInt 16 ((s.r16 p).toNat - 1)) ∧ t.f = s.f ∧ t.cycles = s.cycles + 8) ∧
  (∀ (p : R16) (s : State), ∃ i t, decode [byte (0x09 + 16 * p.index)] = .ok (i, []) ∧ exec i s = .next t ∧
    WritesR16 s t .hl (BitVec.ofNat 16 (s.hl.toNat + (s.r16 p).toNat)) ∧
    FlagsAre t s.flagZ false (decide (s.hl.toNat % 4096 + (s.r16 p).toNat % 4096 > 4095))
      (decide (s.hl.toNat + (s.r16 p).toNat > 65535)) ∧ t.cycles = s.cycles + 8)

/-- `ADD SP,e8` and `LD HL,SP+e8`: SP plus the signed byte; Z and N 0, H and C from the unsigned sum of SP's low byte and the
raw byte (43 R283, 41 R236). Constructors add_SP_e8, ld_HL_SPe8. -/
def Obligations.SpRelative : Prop :=
  (∀ (e : Byte) (s : State), ∃ i t, decode [0xE8, e] = .ok (i, []) ∧ exec i s = .next t ∧
    WritesR16 s t .sp (BitVec.ofInt 16 (s.sp.toNat + e.toInt)) ∧
    FlagsAre t false false (decide (s.sp.toNat % 16 + e.toNat % 16 > 15)) (decide (s.sp.toNat % 256 + e.toNat > 255)) ∧
    t.cycles = s.cycles + 16) ∧
  (∀ (e : Byte) (s : State), ∃ i t, decode [0xF8, e] = .ok (i, []) ∧ exec i s = .next t ∧
    WritesR16 s t .hl (BitVec.ofInt 16 (s.sp.toNat + e.toInt)) ∧
    FlagsAre t false false (decide (s.sp.toNat % 16 + e.toNat % 16 > 15)) (decide (s.sp.toNat % 256 + e.toNat > 255)) ∧
    t.cycles = s.cycles + 12)

/-! ### 8-bit arithmetic and logic -/

/-- ADD and ADC: A is the sum modulo 256; Z, N = 0, H from bit 3, C from bit 7, the carry-in counting in both (42 R250, R251,
R252). Constructors add_A_x and adc_A_x for x in B C D E H L MemHL A n8. -/
def Obligations.AddAdc : Prop :=
  AluForms 0 (fun s b t =>
    WritesR8 s t .a (BitVec.ofNat 8 (s.a.toNat + b.toNat)) ∧
    FlagsAre t (decide ((s.a.toNat + b.toNat) % 256 = 0)) false (decide (s.a.toNat % 16 + b.toNat % 16 > 15))
      (decide (s.a.toNat + b.toNat > 255))) ∧
  AluForms 1 (fun s b t =>
    WritesR8 s t .a (BitVec.ofNat 8 (s.a.toNat + b.toNat + s.flagC.toNat)) ∧
    FlagsAre t (decide ((s.a.toNat + b.toNat + s.flagC.toNat) % 256 = 0)) false
      (decide (s.a.toNat % 16 + b.toNat % 16 + s.flagC.toNat > 15))
      (decide (s.a.toNat + b.toNat + s.flagC.toNat > 255)))

/-- SUB, SBC and CP: the difference modulo 256, which CP does not write; Z, N = 1, H and C the borrows of the nibble and the
byte, the borrow-in counting in both (42 R253, R254, R258). Constructors sub_A_x, sbc_A_x, cp_A_x for x in B C D E H L MemHL A
n8. -/
def Obligations.SubSbcCp : Prop :=
  AluForms 2 (fun s b t =>
    WritesR8 s t .a (BitVec.ofInt 8 (s.a.toNat - b.toNat)) ∧
    FlagsAre t (decide (s.a = b)) true (decide (s.a.toNat % 16 < b.toNat % 16)) (decide (s.a.toNat < b.toNat))) ∧
  AluForms 3 (fun s b t =>
    WritesR8 s t .a (BitVec.ofInt 8 (s.a.toNat - b.toNat - s.flagC.toNat)) ∧
    FlagsAre t (decide (BitVec.ofInt 8 (s.a.toNat - b.toNat - s.flagC.toNat) = 0)) true
      (decide (s.a.toNat % 16 < b.toNat % 16 + s.flagC.toNat)) (decide (s.a.toNat < b.toNat + s.flagC.toNat))) ∧
  AluForms 7 (fun s b t =>
    WritesR8 s t .a s.a ∧
    FlagsAre t (decide (s.a = b)) true (decide (s.a.toNat % 16 < b.toNat % 16)) (decide (s.a.toNat < b.toNat)))

/-- AND, XOR, OR: A bit by bit; Z from the result, N = 0, C = 0, H = 1 for AND and 0 for the others (42 R255, R256, R257).
Constructors and_A_x, xor_A_x, or_A_x for x in B C D E H L MemHL A n8. -/
def Obligations.Logic : Prop :=
  AluForms 4 (fun s b t => ∃ r : Byte, WritesR8 s t .a r ∧ (∀ k, k < 8 → r.getLsbD k = (s.a.getLsbD k && b.getLsbD k)) ∧
    FlagsAre t (decide (r = 0)) false true false) ∧
  AluForms 5 (fun s b t => ∃ r : Byte, WritesR8 s t .a r ∧ (∀ k, k < 8 → r.getLsbD k = (s.a.getLsbD k != b.getLsbD k)) ∧
    FlagsAre t (decide (r = 0)) false false false) ∧
  AluForms 6 (fun s b t => ∃ r : Byte, WritesR8 s t .a r ∧ (∀ k, k < 8 → r.getLsbD k = (s.a.getLsbD k || b.getLsbD k)) ∧
    FlagsAre t (decide (r = 0)) false false false)

/-- INC and DEC of a register or of the byte at HL: one read, one write; Z, N, H, and C unchanged (42 R259, R260, R261, R262).
Constructors inc_r and dec_r for r in B C D E H L MemHL A. -/
def Obligations.IncDec8 : Prop :=
  (∀ (r : R8) (s : State), ∃ i t, decode [byte (0x04 + 8 * r.index)] = .ok (i, []) ∧ exec i s = .next t ∧
    WritesR8 s t r (BitVec.ofNat 8 ((s.r8 r).toNat + 1)) ∧
    FlagsAre t (decide ((s.r8 r).toNat = 255)) false (decide ((s.r8 r).toNat % 16 = 15)) s.flagC ∧
    t.cycles = s.cycles + (if r = .mHL then 12 else 4)) ∧
  (∀ (r : R8) (s : State), ∃ i t, decode [byte (0x05 + 8 * r.index)] = .ok (i, []) ∧ exec i s = .next t ∧
    WritesR8 s t r (BitVec.ofInt 8 ((s.r8 r).toNat - 1)) ∧
    FlagsAre t (decide ((s.r8 r).toNat = 1)) true (decide ((s.r8 r).toNat % 16 = 0)) s.flagC ∧
    t.cycles = s.cycles + (if r = .mHL then 12 else 4))

/-- DAA after an addition adds 0x06 when H or the low digit is above 9, and 0x60, setting C, when C or A is above 0x99; after a
subtraction it subtracts 0x06 when H and 0x60 when C, keeping C; H is cleared, N kept, Z from A (42 R263). CPL complements A
and sets N and H; SCF sets C, CCF complements it, both clearing N and H; Z is kept (42 R264, R265, R266). Constructors daa, cpl,
scf, ccf. -/
def Obligations.DaaCplScfCcf : Prop :=
  (∀ s : State, ∃ i t, decode [0x27] = .ok (i, []) ∧ exec i s = .next t ∧
    (s.flagN = false → ∃ lo hi : Bool, lo = (s.flagH || decide (s.a.toNat % 16 > 9)) ∧
      hi = (s.flagC || decide (s.a.toNat > 0x99)) ∧
      WritesR8 s t .a (BitVec.ofNat 8 (s.a.toNat + lo.toNat * 6 + hi.toNat * 96)) ∧
      FlagsAre t (decide (t.a = 0)) false false hi) ∧
    (s.flagN = true → WritesR8 s t .a (BitVec.ofInt 8 (s.a.toNat - s.flagH.toNat * 6 - s.flagC.toNat * 96)) ∧
      FlagsAre t (decide (t.a = 0)) true false s.flagC) ∧
    t.cycles = s.cycles + 4) ∧
  (∀ s : State, ∃ i t, decode [0x2F] = .ok (i, []) ∧ exec i s = .next t ∧
    WritesR8 s t .a (BitVec.ofNat 8 (255 - s.a.toNat)) ∧ FlagsAre t s.flagZ true true s.flagC ∧ t.cycles = s.cycles + 4) ∧
  (∀ s : State, ∃ i t, decode [0x37] = .ok (i, []) ∧ exec i s = .next t ∧
    WritesR8 s t .a s.a ∧ FlagsAre t s.flagZ false false true ∧ t.cycles = s.cycles + 4) ∧
  (∀ s : State, ∃ i t, decode [0x3F] = .ok (i, []) ∧ exec i s = .next t ∧
    WritesR8 s t .a s.a ∧ FlagsAre t s.flagZ false false (!s.flagC) ∧ t.cycles = s.cycles + 4)

/-! ### Rotates, shifts, bits -/

/-- RLC, RRC, RL, RR, SLA, SRA, SWAP, SRL of a register or of the byte at HL: the operand read once and written once, Z from
the result, N and H 0, C the bit shifted out (44 R294-R302). RLCA, RRCA, RLA, RRA: as the CB forms on A, but Z, N and H are
always 0 and the cost is 4 (44 R290-R293). Constructors rlc_r, rrc_r, rl_r, rr_r, sla_r, sra_r, swap_r, srl_r for r in B C D E
H L MemHL A, and rlca, rrca, rla, rra. -/
def Obligations.Rotates : Prop :=
  (∀ (op : RotOp) (r : R8) (s : State), ∃ i t, decode [0xCB, byte (8 * op.index + r.index)] = .ok (i, []) ∧
      exec i s = .next t ∧
      WritesR8 s t r (byte (rotArith op (s.r8 r).toNat s.flagC.toNat).1) ∧
      FlagsAre t (decide ((rotArith op (s.r8 r).toNat s.flagC.toNat).1 = 0)) false false
        (rotArith op (s.r8 r).toNat s.flagC.toNat).2 ∧
      t.cycles = s.cycles + (if r = .mHL then 16 else 8)) ∧
  (∀ (op : RotOp) (s : State), op ∈ [.rlc, .rrc, .rl, .rr] → ∃ i t, decode [byte (8 * op.index + 7)] = .ok (i, []) ∧
      exec i s = .next t ∧ WritesR8 s t .a (byte (rotArith op s.a.toNat s.flagC.toNat).1) ∧
      FlagsAre t false false false (rotArith op s.a.toNat s.flagC.toNat).2 ∧ t.cycles = s.cycles + 4)

/-- `BIT b,r`: Z is the complement of the bit, N = 0, H = 1, C unchanged; the operand is not written (44 R303). Constructors
bit_0_r ... bit_7_r for r in B C D E H L MemHL A. -/
def Obligations.BitTest : Prop :=
  ∀ (b : Nat) (r : R8) (s : State), b < 8 → ∃ i t, decode [0xCB, byte (0x40 + 8 * b + r.index)] = .ok (i, []) ∧
    exec i s = .next t ∧ WritesR8 s t .a s.a ∧
    FlagsAre t (decide ((s.r8 r).toNat / 2 ^ b % 2 = 0)) false true s.flagC ∧
    t.cycles = s.cycles + (if r = .mHL then 12 else 8)

/-- `RES b,r` and `SET b,r`: one bit cleared or set, written back even when unchanged; no flag (44 R304, R305). Constructors
res_0_r ... res_7_r and set_0_r ... set_7_r for r in B C D E H L MemHL A. -/
def Obligations.ResSet : Prop :=
  (∀ (b : Nat) (r : R8) (s : State), b < 8 → ∃ i t v, decode [0xCB, byte (0x80 + 8 * b + r.index)] = .ok (i, []) ∧
    exec i s = .next t ∧ WritesR8 s t r v ∧ (∀ k, k < 8 → v.getLsbD k = (decide (k ≠ b) && (s.r8 r).getLsbD k)) ∧
    t.f = s.f ∧ t.cycles = s.cycles + (if r = .mHL then 16 else 8)) ∧
  (∀ (b : Nat) (r : R8) (s : State), b < 8 → ∃ i t v, decode [0xCB, byte (0xC0 + 8 * b + r.index)] = .ok (i, []) ∧
    exec i s = .next t ∧ WritesR8 s t r v ∧ (∀ k, k < 8 → v.getLsbD k = (decide (k = b) || (s.r8 r).getLsbD k)) ∧
    t.f = s.f ∧ t.cycles = s.cycles + (if r = .mHL then 16 else 8))

/-! ### Control -/

/-- JP, JP HL, JR and their conditional forms: PC is the target exactly when the form is unconditional or its condition holds
(NZ iff Z = 0, Z iff Z = 1, NC iff C = 0, C iff C = 1), else PC stays past the instruction; only PC and the cost change
(45 R310, R311, R312, R313, R314, R315). Constructors jp_a16, jp_HL, jr_e8, jp_cc_a16, jr_cc_e8 for cc in NZ Z NC C. -/
def Obligations.Jumps : Prop :=
  (∀ s : State, s.holds .nz = !s.flagZ ∧ s.holds .z = s.flagZ ∧ s.holds .nc = !s.flagC ∧ s.holds .c = s.flagC) ∧
  (∀ (lo hi : Byte) (s : State), ∃ i, decode [0xC3, lo, hi] = .ok (i, []) ∧
    exec i s = .next { s with pc := joinBytes hi lo, cycles := s.cycles + 16 }) ∧
  (∀ s : State, ∃ i, decode [0xE9] = .ok (i, []) ∧ exec i s = .next { s with pc := s.hl, cycles := s.cycles + 4 }) ∧
  (∀ (e : Byte) (s : State), ∃ i, decode [0x18, e] = .ok (i, []) ∧
    exec i s = .next { s with pc := BitVec.ofInt 16 (s.pc.toNat + e.toInt), cycles := s.cycles + 12 }) ∧
  (∀ (cc : Cond) (lo hi : Byte) (s : State), ∃ i, decode [byte (0xC2 + 8 * cc.index), lo, hi] = .ok (i, []) ∧
    exec i s = .next (if s.holds cc then { s with pc := joinBytes hi lo, cycles := s.cycles + 16 }
      else { s with cycles := s.cycles + 12 })) ∧
  (∀ (cc : Cond) (e : Byte) (s : State), ∃ i, decode [byte (0x20 + 8 * cc.index), e] = .ok (i, []) ∧
    exec i s = .next (if s.holds cc then { s with pc := BitVec.ofInt 16 (s.pc.toNat + e.toInt), cycles := s.cycles + 12 }
      else { s with cycles := s.cycles + 8 }))

/-- CALL, CALL cc and RST push the PC past the instruction and jump; not taken, nothing is pushed (45 R316, R317, R321).
Constructors call_a16, call_cc_a16 for cc in NZ Z NC C, rst_00, rst_08, rst_10, rst_18, rst_20, rst_28, rst_30, rst_38. -/
def Obligations.Calls : Prop :=
  (∀ (lo hi : Byte) (s : State), ∃ i, decode [0xCD, lo, hi] = .ok (i, []) ∧
    exec i s = .next { Pushed s s.pc with pc := joinBytes hi lo, cycles := s.cycles + 24 }) ∧
  (∀ (cc : Cond) (lo hi : Byte) (s : State), ∃ i, decode [byte (0xC4 + 8 * cc.index), lo, hi] = .ok (i, []) ∧
    exec i s = .next (if s.holds cc then { Pushed s s.pc with pc := joinBytes hi lo, cycles := s.cycles + 24 }
      else { s with cycles := s.cycles + 12 })) ∧
  (∀ (y : Nat) (s : State), y < 8 → ∃ i, decode [byte (0xC7 + 8 * y)] = .ok (i, []) ∧
    exec i s = .next { Pushed s s.pc with pc := BitVec.ofNat 16 (y * 8), cycles := s.cycles + 16 })

/-- RET, RET cc and RETI pop PC, the low byte at SP and the high byte at SP+1; RETI also sets IME; not taken, nothing is popped
(45 R318, R319, and the action of R320). Constructors ret, reti, ret_NZ, ret_Z, ret_NC, ret_C. -/
def Obligations.Returns : Prop :=
  ∀ s : State, ∃ v : Word, v = joinBytes (s.busRead (s.sp + 1)) (s.busRead s.sp) ∧
    (∃ i, decode [0xC9] = .ok (i, []) ∧ exec i s = .next { s with pc := v, sp := s.sp + 2, cycles := s.cycles + 16 }) ∧
    (∃ i, decode [0xD9] = .ok (i, []) ∧
      exec i s = .next { s with pc := v, sp := s.sp + 2, ime := true, cycles := s.cycles + 16 }) ∧
    (∀ cc : Cond, ∃ i, decode [byte (0xC0 + 8 * cc.index)] = .ok (i, []) ∧
      exec i s = .next (if s.holds cc then { s with pc := v, sp := s.sp + 2, cycles := s.cycles + 20 }
        else { s with cycles := s.cycles + 8 }))

/-! ### System -/

/-- NOP does nothing; DI clears IME; EI does nothing in its action (the step sets ei_pending, see EiDelay); 4 ticks each
(46 R330, R333, R334). The eleven unused opcodes are 4-tick no-ops under P_UNUSED_OPCODE = NOP and lock the core up under
LOCKUP (46 R335). Constructors nop, di, ei, unused_D3, unused_DB, unused_DD, unused_E3, unused_E4, unused_EB, unused_EC,
unused_ED, unused_F4, unused_FC, unused_FD. -/
def Obligations.NopDiEiUnused : Prop :=
  (∀ s : State, exec .nop s = .next { s with cycles := s.cycles + 4 }) ∧
  (∀ s : State, exec .di s = .next { s with ime := false, cycles := s.cycles + 4 }) ∧
  (∀ s : State, exec .ei s = .next { s with cycles := s.cycles + 4 }) ∧
  (∀ (o : Byte) (s : State), o.toNat ∈ [0xD3, 0xDB, 0xDD, 0xE3, 0xE4, 0xEB, 0xEC, 0xED, 0xF4, 0xFC, 0xFD] →
    ∃ i, decode [o] = .ok (i, []) ∧
      (s.params.unusedOpcode = .nop → exec i s = .next { s with cycles := s.cycles + 4 }) ∧
      (s.params.unusedOpcode = .lockup → exec i s = .fault .lockup))

/-- HALT sets the HALT bug and does not stall when IME = 0 and an enabled request is pending, else it enters the HALT stall;
4 ticks (46 R331). STOP, whatever its second byte, toggles the speed and disarms when armed, else enters the STOP stall; 4 ticks
(46 R332). Constructors halt, stop. -/
def Obligations.HaltStop : Prop :=
  (∀ s : State, exec .halt s =
    .next (if s.ime = false ∧ s.ie &&& s.ifReg &&& 0x1F ≠ 0 then { s with haltBug := true, cycles := s.cycles + 4 }
      else { s with halted := true, cycles := s.cycles + 4 })) ∧
  (∀ (x : Byte) (s : State), exec (.stop x) s =
    .next (if s.key1Armed then { s with doubleSpeed := !s.doubleSpeed, key1Armed := false, cycles := s.cycles + 4 }
      else { s with stopped := true, cycles := s.cycles + 4 }))
end

