-- ==== Sys2Proof/Laws/Bits.lean ====
section
/-! SUPPORT. Byte halves of a word, packed flags, and the register file's read-after-write laws. -/

namespace Sys2Proof.Laws

open Sys2Proof Sys2Proof.Machine

theorem hiByte_toNat (w : Word) : (hiByte w).toNat = w.toNat / 256 := by
  have := w.isLt
  simp only [hiByte, BitVec.extractLsb'_toNat, Nat.shiftRight_eq_div_pow]
  omega

theorem loByte_toNat (w : Word) : (loByte w).toNat = w.toNat % 256 := by
  simp [loByte, BitVec.extractLsb'_toNat]

theorem joinBytes_toNat (hi lo : Byte) : (joinBytes hi lo).toNat = hi.toNat * 256 + lo.toNat := by
  have h : (joinBytes hi lo).toNat = hi.toNat <<< 8 ||| lo.toNat := BitVec.toNat_append hi lo
  rw [h, ← Nat.shiftLeft_add_eq_or_of_lt lo.isLt, Nat.shiftLeft_eq]

@[simp] theorem hiByte_joinBytes (hi lo : Byte) : hiByte (joinBytes hi lo) = hi := by
  apply BitVec.eq_of_toNat_eq
  have := lo.isLt
  rw [hiByte_toNat, joinBytes_toNat]
  omega

@[simp] theorem loByte_joinBytes (hi lo : Byte) : loByte (joinBytes hi lo) = lo := by
  apply BitVec.eq_of_toNat_eq
  have := lo.isLt
  rw [loByte_toNat, joinBytes_toNat]
  omega

@[simp] theorem joinBytes_hi_lo (w : Word) : joinBytes (hiByte w) (loByte w) = w := by
  apply BitVec.eq_of_toNat_eq
  rw [joinBytes_toNat, hiByte_toNat, loByte_toNat]
  omega

/-- The address of the LDH and (C) forms (30 R142). -/
theorem highPage_eq (a : Byte) : highPage a = 0xFF00 + a.setWidth 16 := by
  apply BitVec.eq_of_toNat_eq
  have := a.isLt
  rw [highPage, joinBytes_toNat]
  simp
  omega

/-- Adding a sign-extended byte, in exact arithmetic (41 R236, 43 R283, 45 R314). -/
theorem ofInt_add_toInt (w : Word) (e : Byte) : BitVec.ofInt 16 (w.toNat + e.toInt) = w + sext16 e := by
  apply BitVec.eq_of_toInt_eq
  rw [BitVec.toInt_ofInt, BitVec.toInt_add, sext16, BitVec.toInt_signExtend_of_le (by decide), BitVec.toInt_eq_toNat_bmod w]
  simp

@[simp] theorem packFlags_mask (z n h c : Bool) : packFlags z n h c &&& 0xF0 = packFlags z n h c := by
  cases z <;> cases n <;> cases h <;> cases c <;> rfl

@[simp] theorem packFlags_low (z n h c : Bool) : packFlags z n h c &&& 0x0F = 0 := by
  cases z <;> cases n <;> cases h <;> cases c <;> rfl

@[simp] theorem mask_low (v : Byte) : v &&& 0xF0#8 &&& 0x0F#8 = 0#8 := by
  rw [BitVec.and_assoc]
  simp

variable (s : State)

@[simp] theorem a_setA (v : Byte) : (s.setA v).a = v := by simp [State.a, State.setA]
@[simp] theorem f_setA (v : Byte) : (s.setA v).f = s.f := by simp [State.f, State.setA]
@[simp] theorem a_setF (v : Byte) : (s.setF v).a = s.a := by simp [State.a, State.setF]
@[simp] theorem f_setF (v : Byte) : (s.setF v).f = v &&& 0xF0 := by simp [State.f, State.setF]
@[simp] theorem a_setFlags (z n h c : Bool) : (s.setFlags z n h c).a = s.a := by simp [State.setFlags]
@[simp] theorem f_setFlags (z n h c : Bool) : (s.setFlags z n h c).f = packFlags z n h c := by simpa [State.setFlags] using packFlags_mask z n h c
@[simp] theorem b_setB (v : Byte) : (s.setB v).b = v := by simp [State.b, State.setB]
@[simp] theorem c_setB (v : Byte) : (s.setB v).c = s.c := by simp [State.c, State.setB]
@[simp] theorem c_setC (v : Byte) : (s.setC v).c = v := by simp [State.c, State.setC]
@[simp] theorem b_setC (v : Byte) : (s.setC v).b = s.b := by simp [State.b, State.setC]
@[simp] theorem d_setD (v : Byte) : (s.setD v).d = v := by simp [State.d, State.setD]
@[simp] theorem e_setD (v : Byte) : (s.setD v).e = s.e := by simp [State.e, State.setD]
@[simp] theorem e_setE (v : Byte) : (s.setE v).e = v := by simp [State.e, State.setE]
@[simp] theorem d_setE (v : Byte) : (s.setE v).d = s.d := by simp [State.d, State.setE]
@[simp] theorem h_setH (v : Byte) : (s.setH v).h = v := by simp [State.h, State.setH]
@[simp] theorem l_setH (v : Byte) : (s.setH v).l = s.l := by simp [State.l, State.setH]
@[simp] theorem l_setL (v : Byte) : (s.setL v).l = v := by simp [State.l, State.setL]
@[simp] theorem h_setL (v : Byte) : (s.setL v).h = s.h := by simp [State.h, State.setL]

/-- Reading back a register just written (10 R21). -/
theorem r8_setR8_same {r : R8} (hr : r ≠ .mHL) (v : Byte) : (s.setR8 r v).r8 r = v := by
  cases r <;> simp_all [State.setR8, State.r8]

/-- Writing a register leaves every other register (10 R21: a half leaves the other half). -/
theorem r8_setR8_ne {r r' : R8} (hr : r ≠ .mHL) (hr' : r' ≠ .mHL) (h : r' ≠ r) (v : Byte) :
    (s.setR8 r v).r8 r' = s.r8 r' := by
  cases r <;> cases r' <;>
    first
    | exact absurd rfl hr
    | exact absurd rfl hr'
    | exact absurd rfl h
    | simp [State.setR8, State.r8, State.a, State.b, State.c, State.d, State.e, State.h, State.l, State.setA, State.setB,
        State.setC, State.setD, State.setE, State.setH, State.setL]

/-- Writing a register leaves F. -/
theorem f_setR8 {r : R8} (hr : r ≠ .mHL) (v : Byte) : (s.setR8 r v).f = s.f := by
  cases r <;> simp_all [State.setR8, State.f, State.setA, State.setB, State.setC, State.setD, State.setE, State.setH, State.setL]

end Sys2Proof.Laws
end

