-- ==== Sys2Proof/Laws/Mem.lean ====
section
/-! SUPPORT. The storage arrays: read after write, every other offset unchanged, and the canonical form is kept. -/

namespace Sys2Proof.Laws

open Sys2Proof Sys2Proof.Machine

@[simp] theorem read_nil (a : Nat) : Mem.read [] a = unlistedByte := rfl

theorem read_cons (k : Nat) (v : Byte) (m : Mem) (a : Nat) :
    Mem.read ((k, v) :: m) a = if k = a then v else m.read a := rfl

/-- A write leaves every other offset alone, in any list. -/
theorem read_write_ne (m : Mem) {a b : Nat} (h : b ≠ a) (v : Byte) : (m.write a v).read b = m.read b := by
  induction m with
  | nil =>
    unfold Mem.write
    split
    · rfl
    · simp [read_cons, h.symm]
  | cons c m ih =>
    obtain ⟨k, w⟩ := c
    unfold Mem.write
    split
    · split
      · rfl
      · simp [read_cons, h.symm]
    · split
      · next hk =>
        subst hk
        split <;> simp [read_cons, h.symm]
      · simp [read_cons, ih]

/-- Below the first offset a canonical list has nothing. -/
theorem read_below {m : Mem} {lo size a : Nat} (hm : m.wfFrom lo size = true) (ha : a < lo) : m.read a = unlistedByte := by
  induction m generalizing lo with
  | nil => rfl
  | cons c m ih =>
    obtain ⟨k, w⟩ := c
    simp only [Mem.wfFrom, Bool.and_eq_true, decide_eq_true_eq] at hm
    rw [read_cons, if_neg (by omega)]
    exact ih hm.2 (by omega)

/-- A read after a write to the same offset gives the byte written. -/
theorem read_write_same {m : Mem} {lo size : Nat} (hm : m.wfFrom lo size = true) (a : Nat) (v : Byte) :
    (m.write a v).read a = v := by
  induction m generalizing lo with
  | nil =>
    unfold Mem.write
    split
    · next h => simp [h]
    · simp [read_cons]
  | cons c m ih =>
    obtain ⟨k, w⟩ := c
    have hm' := hm
    simp only [Mem.wfFrom, Bool.and_eq_true, decide_eq_true_eq] at hm
    unfold Mem.write
    split
    · next hlt =>
      split
      · next hv => rw [read_cons, if_neg (by omega), read_below hm.2 (by omega), hv]
      · simp [read_cons]
    · split
      · next hk =>
        subst hk
        split
        · next hv => rw [read_below hm.2 (by omega), hv]
        · simp [read_cons]
      · next hne => rw [read_cons, if_neg (by omega)]; exact ih hm.2

theorem wfFrom_mono {m : Mem} {lo lo' size : Nat} (h : lo' ≤ lo) (hm : m.wfFrom lo size = true) :
    m.wfFrom lo' size = true := by
  cases m with
  | nil => rfl
  | cons c m =>
    obtain ⟨k, w⟩ := c
    simp only [Mem.wfFrom, Bool.and_eq_true, decide_eq_true_eq] at hm ⊢
    exact ⟨⟨⟨by omega, hm.1.1.2⟩, hm.1.2⟩, hm.2⟩

theorem write_wfFrom {m : Mem} {lo size a : Nat} (hm : m.wfFrom lo size = true) (hlo : lo ≤ a) (ha : a < size) (v : Byte) :
    (m.write a v).wfFrom lo size = true := by
  induction m generalizing lo with
  | nil =>
    unfold Mem.write
    split
    · rfl
    · next h => simp [Mem.wfFrom, hlo, ha, h]
  | cons c m ih =>
    obtain ⟨k, w⟩ := c
    have hm' := hm
    simp only [Mem.wfFrom, Bool.and_eq_true, decide_eq_true_eq] at hm
    unfold Mem.write
    split
    · next hlt =>
      split
      · exact hm'
      · next h =>
        simp only [Mem.wfFrom, Bool.and_eq_true, decide_eq_true_eq, bne_iff_ne, ne_eq]
        exact ⟨⟨⟨hlo, ha⟩, h⟩, ⟨⟨by omega, hm.1.1.2⟩, by simpa using hm.1.2⟩, hm.2⟩
    · split
      · next hk =>
        subst hk
        split
        · exact wfFrom_mono (by omega) hm.2
        · next h =>
          simp only [Mem.wfFrom, Bool.and_eq_true, decide_eq_true_eq, bne_iff_ne, ne_eq]
          exact ⟨⟨⟨hlo, ha⟩, h⟩, hm.2⟩
      · simp only [Mem.wfFrom, Bool.and_eq_true, decide_eq_true_eq]
        exact ⟨⟨⟨hm.1.1.1, hm.1.1.2⟩, hm.1.2⟩, ih hm.2 (by omega)⟩

/-- A write keeps the canonical form. -/
theorem write_wf {m : Mem} {size a : Nat} (hm : m.wf size = true) (ha : a < size) (v : Byte) :
    (m.write a v).wf size = true :=
  write_wfFrom hm (Nat.zero_le a) ha v

/-- A read after a write to the same offset of a canonical array. -/
theorem read_write_wf {m : Mem} {size : Nat} (hm : m.wf size = true) (a : Nat) (v : Byte) : (m.write a v).read a = v :=
  read_write_same hm a v

/-- An array holds what its cells give (10 R59; 20 R99). -/
theorem ofCells_read {size a : Nat} (ha : a < size) (cells : List Host.Cell) :
    (Mem.ofCells size cells).read a = lastByte cells a := by
  suffices h : ∀ (m : Mem) (v : Byte), m.wf size = true → m.read a = v →
      (cells.foldl (fun m c => if c.1 < size then m.write c.1 c.2 else m) m).read a =
        cells.foldl (fun v c => if c.1 = a then c.2 else v) v from h [] unlistedByte rfl rfl
  induction cells with
  | nil => exact fun _ _ _ h => h
  | cons c cs ih =>
    intro m v hm hv
    simp only [List.foldl_cons]
    by_cases hc : c.1 < size
    · rw [if_pos hc]
      refine ih _ _ (write_wf hm hc _) ?_
      by_cases hca : c.1 = a
      · rw [if_pos hca, ← hca, read_write_wf hm]
      · rw [if_neg hca, read_write_ne _ (Ne.symm hca), hv]
    · rw [if_neg hc, if_neg (by omega)]
      exact ih _ _ hm hv

/-- An array built from cells is canonical. -/
theorem ofCells_wf (size : Nat) (cells : List Host.Cell) : (Mem.ofCells size cells).wf size = true := by
  have h : ∀ (cs : List Host.Cell) (m : Mem), m.wf size = true →
      (cs.foldl (fun m c => if c.1 < size then m.write c.1 c.2 else m) m).wf size = true := by
    intro cs
    induction cs with
    | nil => intro m hm; exact hm
    | cons c cs ih =>
      intro m hm
      refine ih _ ?_
      dsimp only
      split
      · next hlt => exact write_wf hm hlt c.2
      · exact hm
  exact h cells [] rfl

/-- Two canonical arrays that read alike are equal data. -/
theorem ext_read {m m' : Mem} {lo size : Nat} (hm : m.wfFrom lo size = true) (hm' : m'.wfFrom lo size = true)
    (h : ∀ a, m.read a = m'.read a) : m = m' := by
  induction m generalizing lo m' with
  | nil =>
    cases m' with
    | nil => rfl
    | cons c m' =>
      obtain ⟨k, w⟩ := c
      have := h k
      simp only [Mem.wfFrom, Bool.and_eq_true, bne_iff_ne, ne_eq] at hm'
      simp [read_cons] at this
      exact absurd this.symm hm'.1.2
  | cons c m ih =>
    obtain ⟨k, w⟩ := c
    have hmc := hm
    simp only [Mem.wfFrom, Bool.and_eq_true, decide_eq_true_eq, bne_iff_ne, ne_eq] at hm
    cases m' with
    | nil =>
      have := h k
      simp [read_cons] at this
      exact absurd this hm.1.2
    | cons c' m' =>
      obtain ⟨k', w'⟩ := c'
      have hmc' := hm'
      simp only [Mem.wfFrom, Bool.and_eq_true, decide_eq_true_eq, bne_iff_ne, ne_eq] at hm'
      have hk : k = k' := by
        by_contra hne
        rcases Nat.lt_or_gt_of_ne hne with hlt | hlt
        · have := h k
          rw [read_cons, if_pos rfl, read_cons, if_neg (by omega), read_below hm'.2 (by omega)] at this
          exact hm.1.2 this
        · have := h k'
          rw [read_cons, if_neg (by omega), read_below hm.2 (by omega), read_cons, if_pos rfl] at this
          exact hm'.1.2 this.symm
      subst hk
      have hw : w = w' := by simpa [read_cons] using h k
      subst hw
      have hrest : m = m' := by
        refine ih hm.2 hm'.2 (fun a => ?_)
        by_cases ha : k = a
        · subst ha
          rw [read_below hm.2 (by omega), read_below hm'.2 (by omega)]
        · have := h a
          rwa [read_cons, if_neg ha, read_cons, if_neg ha] at this
      rw [hrest]

end Sys2Proof.Laws
end

