-- ==== Sys2Proof/Laws/State.lean ====
section
/-! SUPPORT. What each named update of the state does to each field: one lemma per field per update, true by rfl. -/

namespace Sys2Proof.Laws

open Sys2Proof.Machine

variable (s : State)

/-! ### tick -/

@[simp] theorem tick_af (n : Nat) : (s.tick n).af = s.af := rfl
@[simp] theorem tick_bc (n : Nat) : (s.tick n).bc = s.bc := rfl
@[simp] theorem tick_de (n : Nat) : (s.tick n).de = s.de := rfl
@[simp] theorem tick_hl (n : Nat) : (s.tick n).hl = s.hl := rfl
@[simp] theorem tick_sp (n : Nat) : (s.tick n).sp = s.sp := rfl
@[simp] theorem tick_pc (n : Nat) : (s.tick n).pc = s.pc := rfl
@[simp] theorem tick_ime (n : Nat) : (s.tick n).ime = s.ime := rfl
@[simp] theorem tick_eiPending (n : Nat) : (s.tick n).eiPending = s.eiPending := rfl
@[simp] theorem tick_ie (n : Nat) : (s.tick n).ie = s.ie := rfl
@[simp] theorem tick_io (n : Nat) : (s.tick n).io = s.io := rfl
@[simp] theorem tick_halted (n : Nat) : (s.tick n).halted = s.halted := rfl
@[simp] theorem tick_haltBug (n : Nat) : (s.tick n).haltBug = s.haltBug := rfl
@[simp] theorem tick_stopped (n : Nat) : (s.tick n).stopped = s.stopped := rfl
@[simp] theorem tick_doubleSpeed (n : Nat) : (s.tick n).doubleSpeed = s.doubleSpeed := rfl
@[simp] theorem tick_key1Armed (n : Nat) : (s.tick n).key1Armed = s.key1Armed := rfl
@[simp] theorem tick_cycles (n : Nat) : (s.tick n).cycles = s.cycles + n := rfl
@[simp] theorem tick_wram (n : Nat) : (s.tick n).wram = s.wram := rfl
@[simp] theorem tick_vram (n : Nat) : (s.tick n).vram = s.vram := rfl
@[simp] theorem tick_oam (n : Nat) : (s.tick n).oam = s.oam := rfl
@[simp] theorem tick_hram (n : Nat) : (s.tick n).hram = s.hram := rfl
@[simp] theorem tick_bgPal (n : Nat) : (s.tick n).bgPal = s.bgPal := rfl
@[simp] theorem tick_objPal (n : Nat) : (s.tick n).objPal = s.objPal := rfl
@[simp] theorem tick_eram (n : Nat) : (s.tick n).eram = s.eram := rfl
@[simp] theorem tick_bootMapped (n : Nat) : (s.tick n).bootMapped = s.bootMapped := rfl
@[simp] theorem tick_bootRom (n : Nat) : (s.tick n).bootRom = s.bootRom := rfl
@[simp] theorem tick_cart (n : Nat) : (s.tick n).cart = s.cart := rfl
@[simp] theorem tick_romBank (n : Nat) : (s.tick n).romBank = s.romBank := rfl
@[simp] theorem tick_ramBank (n : Nat) : (s.tick n).ramBank = s.ramBank := rfl
@[simp] theorem tick_ramEnable (n : Nat) : (s.tick n).ramEnable = s.ramEnable := rfl
@[simp] theorem tick_mbc1Mode (n : Nat) : (s.tick n).mbc1Mode = s.mbc1Mode := rfl
@[simp] theorem tick_hdmaSrc (n : Nat) : (s.tick n).hdmaSrc = s.hdmaSrc := rfl
@[simp] theorem tick_hdmaDst (n : Nat) : (s.tick n).hdmaDst = s.hdmaDst := rfl
@[simp] theorem tick_hdmaActive (n : Nat) : (s.tick n).hdmaActive = s.hdmaActive := rfl
@[simp] theorem tick_hdmaBlocks (n : Nat) : (s.tick n).hdmaBlocks = s.hdmaBlocks := rfl
@[simp] theorem tick_joypIn (n : Nat) : (s.tick n).joypIn = s.joypIn := rfl
@[simp] theorem tick_params (n : Nat) : (s.tick n).params = s.params := rfl

/-! ### setPort -/

@[simp] theorem setPort_af (p : BitVec 7) (v : Byte) : (s.setPort p v).af = s.af := rfl
@[simp] theorem setPort_bc (p : BitVec 7) (v : Byte) : (s.setPort p v).bc = s.bc := rfl
@[simp] theorem setPort_de (p : BitVec 7) (v : Byte) : (s.setPort p v).de = s.de := rfl
@[simp] theorem setPort_hl (p : BitVec 7) (v : Byte) : (s.setPort p v).hl = s.hl := rfl
@[simp] theorem setPort_sp (p : BitVec 7) (v : Byte) : (s.setPort p v).sp = s.sp := rfl
@[simp] theorem setPort_pc (p : BitVec 7) (v : Byte) : (s.setPort p v).pc = s.pc := rfl
@[simp] theorem setPort_ime (p : BitVec 7) (v : Byte) : (s.setPort p v).ime = s.ime := rfl
@[simp] theorem setPort_eiPending (p : BitVec 7) (v : Byte) : (s.setPort p v).eiPending = s.eiPending := rfl
@[simp] theorem setPort_ie (p : BitVec 7) (v : Byte) : (s.setPort p v).ie = s.ie := rfl
@[simp] theorem setPort_io (p : BitVec 7) (v : Byte) : (s.setPort p v).io = s.io.set p.toNat v p.isLt := rfl
@[simp] theorem setPort_halted (p : BitVec 7) (v : Byte) : (s.setPort p v).halted = s.halted := rfl
@[simp] theorem setPort_haltBug (p : BitVec 7) (v : Byte) : (s.setPort p v).haltBug = s.haltBug := rfl
@[simp] theorem setPort_stopped (p : BitVec 7) (v : Byte) : (s.setPort p v).stopped = s.stopped := rfl
@[simp] theorem setPort_doubleSpeed (p : BitVec 7) (v : Byte) : (s.setPort p v).doubleSpeed = s.doubleSpeed := rfl
@[simp] theorem setPort_key1Armed (p : BitVec 7) (v : Byte) : (s.setPort p v).key1Armed = s.key1Armed := rfl
@[simp] theorem setPort_cycles (p : BitVec 7) (v : Byte) : (s.setPort p v).cycles = s.cycles := rfl
@[simp] theorem setPort_wram (p : BitVec 7) (v : Byte) : (s.setPort p v).wram = s.wram := rfl
@[simp] theorem setPort_vram (p : BitVec 7) (v : Byte) : (s.setPort p v).vram = s.vram := rfl
@[simp] theorem setPort_oam (p : BitVec 7) (v : Byte) : (s.setPort p v).oam = s.oam := rfl
@[simp] theorem setPort_hram (p : BitVec 7) (v : Byte) : (s.setPort p v).hram = s.hram := rfl
@[simp] theorem setPort_bgPal (p : BitVec 7) (v : Byte) : (s.setPort p v).bgPal = s.bgPal := rfl
@[simp] theorem setPort_objPal (p : BitVec 7) (v : Byte) : (s.setPort p v).objPal = s.objPal := rfl
@[simp] theorem setPort_eram (p : BitVec 7) (v : Byte) : (s.setPort p v).eram = s.eram := rfl
@[simp] theorem setPort_bootMapped (p : BitVec 7) (v : Byte) : (s.setPort p v).bootMapped = s.bootMapped := rfl
@[simp] theorem setPort_bootRom (p : BitVec 7) (v : Byte) : (s.setPort p v).bootRom = s.bootRom := rfl
@[simp] theorem setPort_cart (p : BitVec 7) (v : Byte) : (s.setPort p v).cart = s.cart := rfl
@[simp] theorem setPort_romBank (p : BitVec 7) (v : Byte) : (s.setPort p v).romBank = s.romBank := rfl
@[simp] theorem setPort_ramBank (p : BitVec 7) (v : Byte) : (s.setPort p v).ramBank = s.ramBank := rfl
@[simp] theorem setPort_ramEnable (p : BitVec 7) (v : Byte) : (s.setPort p v).ramEnable = s.ramEnable := rfl
@[simp] theorem setPort_mbc1Mode (p : BitVec 7) (v : Byte) : (s.setPort p v).mbc1Mode = s.mbc1Mode := rfl
@[simp] theorem setPort_hdmaSrc (p : BitVec 7) (v : Byte) : (s.setPort p v).hdmaSrc = s.hdmaSrc := rfl
@[simp] theorem setPort_hdmaDst (p : BitVec 7) (v : Byte) : (s.setPort p v).hdmaDst = s.hdmaDst := rfl
@[simp] theorem setPort_hdmaActive (p : BitVec 7) (v : Byte) : (s.setPort p v).hdmaActive = s.hdmaActive := rfl
@[simp] theorem setPort_hdmaBlocks (p : BitVec 7) (v : Byte) : (s.setPort p v).hdmaBlocks = s.hdmaBlocks := rfl
@[simp] theorem setPort_joypIn (p : BitVec 7) (v : Byte) : (s.setPort p v).joypIn = s.joypIn := rfl
@[simp] theorem setPort_params (p : BitVec 7) (v : Byte) : (s.setPort p v).params = s.params := rfl

/-! ### setA -/

@[simp] theorem setA_af (v : Byte) : (s.setA v).af = joinBytes v s.f := rfl
@[simp] theorem setA_bc (v : Byte) : (s.setA v).bc = s.bc := rfl
@[simp] theorem setA_de (v : Byte) : (s.setA v).de = s.de := rfl
@[simp] theorem setA_hl (v : Byte) : (s.setA v).hl = s.hl := rfl
@[simp] theorem setA_sp (v : Byte) : (s.setA v).sp = s.sp := rfl
@[simp] theorem setA_pc (v : Byte) : (s.setA v).pc = s.pc := rfl
@[simp] theorem setA_ime (v : Byte) : (s.setA v).ime = s.ime := rfl
@[simp] theorem setA_eiPending (v : Byte) : (s.setA v).eiPending = s.eiPending := rfl
@[simp] theorem setA_ie (v : Byte) : (s.setA v).ie = s.ie := rfl
@[simp] theorem setA_io (v : Byte) : (s.setA v).io = s.io := rfl
@[simp] theorem setA_halted (v : Byte) : (s.setA v).halted = s.halted := rfl
@[simp] theorem setA_haltBug (v : Byte) : (s.setA v).haltBug = s.haltBug := rfl
@[simp] theorem setA_stopped (v : Byte) : (s.setA v).stopped = s.stopped := rfl
@[simp] theorem setA_doubleSpeed (v : Byte) : (s.setA v).doubleSpeed = s.doubleSpeed := rfl
@[simp] theorem setA_key1Armed (v : Byte) : (s.setA v).key1Armed = s.key1Armed := rfl
@[simp] theorem setA_cycles (v : Byte) : (s.setA v).cycles = s.cycles := rfl
@[simp] theorem setA_wram (v : Byte) : (s.setA v).wram = s.wram := rfl
@[simp] theorem setA_vram (v : Byte) : (s.setA v).vram = s.vram := rfl
@[simp] theorem setA_oam (v : Byte) : (s.setA v).oam = s.oam := rfl
@[simp] theorem setA_hram (v : Byte) : (s.setA v).hram = s.hram := rfl
@[simp] theorem setA_bgPal (v : Byte) : (s.setA v).bgPal = s.bgPal := rfl
@[simp] theorem setA_objPal (v : Byte) : (s.setA v).objPal = s.objPal := rfl
@[simp] theorem setA_eram (v : Byte) : (s.setA v).eram = s.eram := rfl
@[simp] theorem setA_bootMapped (v : Byte) : (s.setA v).bootMapped = s.bootMapped := rfl
@[simp] theorem setA_bootRom (v : Byte) : (s.setA v).bootRom = s.bootRom := rfl
@[simp] theorem setA_cart (v : Byte) : (s.setA v).cart = s.cart := rfl
@[simp] theorem setA_romBank (v : Byte) : (s.setA v).romBank = s.romBank := rfl
@[simp] theorem setA_ramBank (v : Byte) : (s.setA v).ramBank = s.ramBank := rfl
@[simp] theorem setA_ramEnable (v : Byte) : (s.setA v).ramEnable = s.ramEnable := rfl
@[simp] theorem setA_mbc1Mode (v : Byte) : (s.setA v).mbc1Mode = s.mbc1Mode := rfl
@[simp] theorem setA_hdmaSrc (v : Byte) : (s.setA v).hdmaSrc = s.hdmaSrc := rfl
@[simp] theorem setA_hdmaDst (v : Byte) : (s.setA v).hdmaDst = s.hdmaDst := rfl
@[simp] theorem setA_hdmaActive (v : Byte) : (s.setA v).hdmaActive = s.hdmaActive := rfl
@[simp] theorem setA_hdmaBlocks (v : Byte) : (s.setA v).hdmaBlocks = s.hdmaBlocks := rfl
@[simp] theorem setA_joypIn (v : Byte) : (s.setA v).joypIn = s.joypIn := rfl
@[simp] theorem setA_params (v : Byte) : (s.setA v).params = s.params := rfl

/-! ### setF -/

@[simp] theorem setF_af (v : Byte) : (s.setF v).af = joinBytes s.a (v &&& 0xF0) := rfl
@[simp] theorem setF_bc (v : Byte) : (s.setF v).bc = s.bc := rfl
@[simp] theorem setF_de (v : Byte) : (s.setF v).de = s.de := rfl
@[simp] theorem setF_hl (v : Byte) : (s.setF v).hl = s.hl := rfl
@[simp] theorem setF_sp (v : Byte) : (s.setF v).sp = s.sp := rfl
@[simp] theorem setF_pc (v : Byte) : (s.setF v).pc = s.pc := rfl
@[simp] theorem setF_ime (v : Byte) : (s.setF v).ime = s.ime := rfl
@[simp] theorem setF_eiPending (v : Byte) : (s.setF v).eiPending = s.eiPending := rfl
@[simp] theorem setF_ie (v : Byte) : (s.setF v).ie = s.ie := rfl
@[simp] theorem setF_io (v : Byte) : (s.setF v).io = s.io := rfl
@[simp] theorem setF_halted (v : Byte) : (s.setF v).halted = s.halted := rfl
@[simp] theorem setF_haltBug (v : Byte) : (s.setF v).haltBug = s.haltBug := rfl
@[simp] theorem setF_stopped (v : Byte) : (s.setF v).stopped = s.stopped := rfl
@[simp] theorem setF_doubleSpeed (v : Byte) : (s.setF v).doubleSpeed = s.doubleSpeed := rfl
@[simp] theorem setF_key1Armed (v : Byte) : (s.setF v).key1Armed = s.key1Armed := rfl
@[simp] theorem setF_cycles (v : Byte) : (s.setF v).cycles = s.cycles := rfl
@[simp] theorem setF_wram (v : Byte) : (s.setF v).wram = s.wram := rfl
@[simp] theorem setF_vram (v : Byte) : (s.setF v).vram = s.vram := rfl
@[simp] theorem setF_oam (v : Byte) : (s.setF v).oam = s.oam := rfl
@[simp] theorem setF_hram (v : Byte) : (s.setF v).hram = s.hram := rfl
@[simp] theorem setF_bgPal (v : Byte) : (s.setF v).bgPal = s.bgPal := rfl
@[simp] theorem setF_objPal (v : Byte) : (s.setF v).objPal = s.objPal := rfl
@[simp] theorem setF_eram (v : Byte) : (s.setF v).eram = s.eram := rfl
@[simp] theorem setF_bootMapped (v : Byte) : (s.setF v).bootMapped = s.bootMapped := rfl
@[simp] theorem setF_bootRom (v : Byte) : (s.setF v).bootRom = s.bootRom := rfl
@[simp] theorem setF_cart (v : Byte) : (s.setF v).cart = s.cart := rfl
@[simp] theorem setF_romBank (v : Byte) : (s.setF v).romBank = s.romBank := rfl
@[simp] theorem setF_ramBank (v : Byte) : (s.setF v).ramBank = s.ramBank := rfl
@[simp] theorem setF_ramEnable (v : Byte) : (s.setF v).ramEnable = s.ramEnable := rfl
@[simp] theorem setF_mbc1Mode (v : Byte) : (s.setF v).mbc1Mode = s.mbc1Mode := rfl
@[simp] theorem setF_hdmaSrc (v : Byte) : (s.setF v).hdmaSrc = s.hdmaSrc := rfl
@[simp] theorem setF_hdmaDst (v : Byte) : (s.setF v).hdmaDst = s.hdmaDst := rfl
@[simp] theorem setF_hdmaActive (v : Byte) : (s.setF v).hdmaActive = s.hdmaActive := rfl
@[simp] theorem setF_hdmaBlocks (v : Byte) : (s.setF v).hdmaBlocks = s.hdmaBlocks := rfl
@[simp] theorem setF_joypIn (v : Byte) : (s.setF v).joypIn = s.joypIn := rfl
@[simp] theorem setF_params (v : Byte) : (s.setF v).params = s.params := rfl

/-! ### setB -/

@[simp] theorem setB_af (v : Byte) : (s.setB v).af = s.af := rfl
@[simp] theorem setB_bc (v : Byte) : (s.setB v).bc = joinBytes v s.c := rfl
@[simp] theorem setB_de (v : Byte) : (s.setB v).de = s.de := rfl
@[simp] theorem setB_hl (v : Byte) : (s.setB v).hl = s.hl := rfl
@[simp] theorem setB_sp (v : Byte) : (s.setB v).sp = s.sp := rfl
@[simp] theorem setB_pc (v : Byte) : (s.setB v).pc = s.pc := rfl
@[simp] theorem setB_ime (v : Byte) : (s.setB v).ime = s.ime := rfl
@[simp] theorem setB_eiPending (v : Byte) : (s.setB v).eiPending = s.eiPending := rfl
@[simp] theorem setB_ie (v : Byte) : (s.setB v).ie = s.ie := rfl
@[simp] theorem setB_io (v : Byte) : (s.setB v).io = s.io := rfl
@[simp] theorem setB_halted (v : Byte) : (s.setB v).halted = s.halted := rfl
@[simp] theorem setB_haltBug (v : Byte) : (s.setB v).haltBug = s.haltBug := rfl
@[simp] theorem setB_stopped (v : Byte) : (s.setB v).stopped = s.stopped := rfl
@[simp] theorem setB_doubleSpeed (v : Byte) : (s.setB v).doubleSpeed = s.doubleSpeed := rfl
@[simp] theorem setB_key1Armed (v : Byte) : (s.setB v).key1Armed = s.key1Armed := rfl
@[simp] theorem setB_cycles (v : Byte) : (s.setB v).cycles = s.cycles := rfl
@[simp] theorem setB_wram (v : Byte) : (s.setB v).wram = s.wram := rfl
@[simp] theorem setB_vram (v : Byte) : (s.setB v).vram = s.vram := rfl
@[simp] theorem setB_oam (v : Byte) : (s.setB v).oam = s.oam := rfl
@[simp] theorem setB_hram (v : Byte) : (s.setB v).hram = s.hram := rfl
@[simp] theorem setB_bgPal (v : Byte) : (s.setB v).bgPal = s.bgPal := rfl
@[simp] theorem setB_objPal (v : Byte) : (s.setB v).objPal = s.objPal := rfl
@[simp] theorem setB_eram (v : Byte) : (s.setB v).eram = s.eram := rfl
@[simp] theorem setB_bootMapped (v : Byte) : (s.setB v).bootMapped = s.bootMapped := rfl
@[simp] theorem setB_bootRom (v : Byte) : (s.setB v).bootRom = s.bootRom := rfl
@[simp] theorem setB_cart (v : Byte) : (s.setB v).cart = s.cart := rfl
@[simp] theorem setB_romBank (v : Byte) : (s.setB v).romBank = s.romBank := rfl
@[simp] theorem setB_ramBank (v : Byte) : (s.setB v).ramBank = s.ramBank := rfl
@[simp] theorem setB_ramEnable (v : Byte) : (s.setB v).ramEnable = s.ramEnable := rfl
@[simp] theorem setB_mbc1Mode (v : Byte) : (s.setB v).mbc1Mode = s.mbc1Mode := rfl
@[simp] theorem setB_hdmaSrc (v : Byte) : (s.setB v).hdmaSrc = s.hdmaSrc := rfl
@[simp] theorem setB_hdmaDst (v : Byte) : (s.setB v).hdmaDst = s.hdmaDst := rfl
@[simp] theorem setB_hdmaActive (v : Byte) : (s.setB v).hdmaActive = s.hdmaActive := rfl
@[simp] theorem setB_hdmaBlocks (v : Byte) : (s.setB v).hdmaBlocks = s.hdmaBlocks := rfl
@[simp] theorem setB_joypIn (v : Byte) : (s.setB v).joypIn = s.joypIn := rfl
@[simp] theorem setB_params (v : Byte) : (s.setB v).params = s.params := rfl

/-! ### setC -/

@[simp] theorem setC_af (v : Byte) : (s.setC v).af = s.af := rfl
@[simp] theorem setC_bc (v : Byte) : (s.setC v).bc = joinBytes s.b v := rfl
@[simp] theorem setC_de (v : Byte) : (s.setC v).de = s.de := rfl
@[simp] theorem setC_hl (v : Byte) : (s.setC v).hl = s.hl := rfl
@[simp] theorem setC_sp (v : Byte) : (s.setC v).sp = s.sp := rfl
@[simp] theorem setC_pc (v : Byte) : (s.setC v).pc = s.pc := rfl
@[simp] theorem setC_ime (v : Byte) : (s.setC v).ime = s.ime := rfl
@[simp] theorem setC_eiPending (v : Byte) : (s.setC v).eiPending = s.eiPending := rfl
@[simp] theorem setC_ie (v : Byte) : (s.setC v).ie = s.ie := rfl
@[simp] theorem setC_io (v : Byte) : (s.setC v).io = s.io := rfl
@[simp] theorem setC_halted (v : Byte) : (s.setC v).halted = s.halted := rfl
@[simp] theorem setC_haltBug (v : Byte) : (s.setC v).haltBug = s.haltBug := rfl
@[simp] theorem setC_stopped (v : Byte) : (s.setC v).stopped = s.stopped := rfl
@[simp] theorem setC_doubleSpeed (v : Byte) : (s.setC v).doubleSpeed = s.doubleSpeed := rfl
@[simp] theorem setC_key1Armed (v : Byte) : (s.setC v).key1Armed = s.key1Armed := rfl
@[simp] theorem setC_cycles (v : Byte) : (s.setC v).cycles = s.cycles := rfl
@[simp] theorem setC_wram (v : Byte) : (s.setC v).wram = s.wram := rfl
@[simp] theorem setC_vram (v : Byte) : (s.setC v).vram = s.vram := rfl
@[simp] theorem setC_oam (v : Byte) : (s.setC v).oam = s.oam := rfl
@[simp] theorem setC_hram (v : Byte) : (s.setC v).hram = s.hram := rfl
@[simp] theorem setC_bgPal (v : Byte) : (s.setC v).bgPal = s.bgPal := rfl
@[simp] theorem setC_objPal (v : Byte) : (s.setC v).objPal = s.objPal := rfl
@[simp] theorem setC_eram (v : Byte) : (s.setC v).eram = s.eram := rfl
@[simp] theorem setC_bootMapped (v : Byte) : (s.setC v).bootMapped = s.bootMapped := rfl
@[simp] theorem setC_bootRom (v : Byte) : (s.setC v).bootRom = s.bootRom := rfl
@[simp] theorem setC_cart (v : Byte) : (s.setC v).cart = s.cart := rfl
@[simp] theorem setC_romBank (v : Byte) : (s.setC v).romBank = s.romBank := rfl
@[simp] theorem setC_ramBank (v : Byte) : (s.setC v).ramBank = s.ramBank := rfl
@[simp] theorem setC_ramEnable (v : Byte) : (s.setC v).ramEnable = s.ramEnable := rfl
@[simp] theorem setC_mbc1Mode (v : Byte) : (s.setC v).mbc1Mode = s.mbc1Mode := rfl
@[simp] theorem setC_hdmaSrc (v : Byte) : (s.setC v).hdmaSrc = s.hdmaSrc := rfl
@[simp] theorem setC_hdmaDst (v : Byte) : (s.setC v).hdmaDst = s.hdmaDst := rfl
@[simp] theorem setC_hdmaActive (v : Byte) : (s.setC v).hdmaActive = s.hdmaActive := rfl
@[simp] theorem setC_hdmaBlocks (v : Byte) : (s.setC v).hdmaBlocks = s.hdmaBlocks := rfl
@[simp] theorem setC_joypIn (v : Byte) : (s.setC v).joypIn = s.joypIn := rfl
@[simp] theorem setC_params (v : Byte) : (s.setC v).params = s.params := rfl

/-! ### setD -/

@[simp] theorem setD_af (v : Byte) : (s.setD v).af = s.af := rfl
@[simp] theorem setD_bc (v : Byte) : (s.setD v).bc = s.bc := rfl
@[simp] theorem setD_de (v : Byte) : (s.setD v).de = joinBytes v s.e := rfl
@[simp] theorem setD_hl (v : Byte) : (s.setD v).hl = s.hl := rfl
@[simp] theorem setD_sp (v : Byte) : (s.setD v).sp = s.sp := rfl
@[simp] theorem setD_pc (v : Byte) : (s.setD v).pc = s.pc := rfl
@[simp] theorem setD_ime (v : Byte) : (s.setD v).ime = s.ime := rfl
@[simp] theorem setD_eiPending (v : Byte) : (s.setD v).eiPending = s.eiPending := rfl
@[simp] theorem setD_ie (v : Byte) : (s.setD v).ie = s.ie := rfl
@[simp] theorem setD_io (v : Byte) : (s.setD v).io = s.io := rfl
@[simp] theorem setD_halted (v : Byte) : (s.setD v).halted = s.halted := rfl
@[simp] theorem setD_haltBug (v : Byte) : (s.setD v).haltBug = s.haltBug := rfl
@[simp] theorem setD_stopped (v : Byte) : (s.setD v).stopped = s.stopped := rfl
@[simp] theorem setD_doubleSpeed (v : Byte) : (s.setD v).doubleSpeed = s.doubleSpeed := rfl
@[simp] theorem setD_key1Armed (v : Byte) : (s.setD v).key1Armed = s.key1Armed := rfl
@[simp] theorem setD_cycles (v : Byte) : (s.setD v).cycles = s.cycles := rfl
@[simp] theorem setD_wram (v : Byte) : (s.setD v).wram = s.wram := rfl
@[simp] theorem setD_vram (v : Byte) : (s.setD v).vram = s.vram := rfl
@[simp] theorem setD_oam (v : Byte) : (s.setD v).oam = s.oam := rfl
@[simp] theorem setD_hram (v : Byte) : (s.setD v).hram = s.hram := rfl
@[simp] theorem setD_bgPal (v : Byte) : (s.setD v).bgPal = s.bgPal := rfl
@[simp] theorem setD_objPal (v : Byte) : (s.setD v).objPal = s.objPal := rfl
@[simp] theorem setD_eram (v : Byte) : (s.setD v).eram = s.eram := rfl
@[simp] theorem setD_bootMapped (v : Byte) : (s.setD v).bootMapped = s.bootMapped := rfl
@[simp] theorem setD_bootRom (v : Byte) : (s.setD v).bootRom = s.bootRom := rfl
@[simp] theorem setD_cart (v : Byte) : (s.setD v).cart = s.cart := rfl
@[simp] theorem setD_romBank (v : Byte) : (s.setD v).romBank = s.romBank := rfl
@[simp] theorem setD_ramBank (v : Byte) : (s.setD v).ramBank = s.ramBank := rfl
@[simp] theorem setD_ramEnable (v : Byte) : (s.setD v).ramEnable = s.ramEnable := rfl
@[simp] theorem setD_mbc1Mode (v : Byte) : (s.setD v).mbc1Mode = s.mbc1Mode := rfl
@[simp] theorem setD_hdmaSrc (v : Byte) : (s.setD v).hdmaSrc = s.hdmaSrc := rfl
@[simp] theorem setD_hdmaDst (v : Byte) : (s.setD v).hdmaDst = s.hdmaDst := rfl
@[simp] theorem setD_hdmaActive (v : Byte) : (s.setD v).hdmaActive = s.hdmaActive := rfl
@[simp] theorem setD_hdmaBlocks (v : Byte) : (s.setD v).hdmaBlocks = s.hdmaBlocks := rfl
@[simp] theorem setD_joypIn (v : Byte) : (s.setD v).joypIn = s.joypIn := rfl
@[simp] theorem setD_params (v : Byte) : (s.setD v).params = s.params := rfl

/-! ### setE -/

@[simp] theorem setE_af (v : Byte) : (s.setE v).af = s.af := rfl
@[simp] theorem setE_bc (v : Byte) : (s.setE v).bc = s.bc := rfl
@[simp] theorem setE_de (v : Byte) : (s.setE v).de = joinBytes s.d v := rfl
@[simp] theorem setE_hl (v : Byte) : (s.setE v).hl = s.hl := rfl
@[simp] theorem setE_sp (v : Byte) : (s.setE v).sp = s.sp := rfl
@[simp] theorem setE_pc (v : Byte) : (s.setE v).pc = s.pc := rfl
@[simp] theorem setE_ime (v : Byte) : (s.setE v).ime = s.ime := rfl
@[simp] theorem setE_eiPending (v : Byte) : (s.setE v).eiPending = s.eiPending := rfl
@[simp] theorem setE_ie (v : Byte) : (s.setE v).ie = s.ie := rfl
@[simp] theorem setE_io (v : Byte) : (s.setE v).io = s.io := rfl
@[simp] theorem setE_halted (v : Byte) : (s.setE v).halted = s.halted := rfl
@[simp] theorem setE_haltBug (v : Byte) : (s.setE v).haltBug = s.haltBug := rfl
@[simp] theorem setE_stopped (v : Byte) : (s.setE v).stopped = s.stopped := rfl
@[simp] theorem setE_doubleSpeed (v : Byte) : (s.setE v).doubleSpeed = s.doubleSpeed := rfl
@[simp] theorem setE_key1Armed (v : Byte) : (s.setE v).key1Armed = s.key1Armed := rfl
@[simp] theorem setE_cycles (v : Byte) : (s.setE v).cycles = s.cycles := rfl
@[simp] theorem setE_wram (v : Byte) : (s.setE v).wram = s.wram := rfl
@[simp] theorem setE_vram (v : Byte) : (s.setE v).vram = s.vram := rfl
@[simp] theorem setE_oam (v : Byte) : (s.setE v).oam = s.oam := rfl
@[simp] theorem setE_hram (v : Byte) : (s.setE v).hram = s.hram := rfl
@[simp] theorem setE_bgPal (v : Byte) : (s.setE v).bgPal = s.bgPal := rfl
@[simp] theorem setE_objPal (v : Byte) : (s.setE v).objPal = s.objPal := rfl
@[simp] theorem setE_eram (v : Byte) : (s.setE v).eram = s.eram := rfl
@[simp] theorem setE_bootMapped (v : Byte) : (s.setE v).bootMapped = s.bootMapped := rfl
@[simp] theorem setE_bootRom (v : Byte) : (s.setE v).bootRom = s.bootRom := rfl
@[simp] theorem setE_cart (v : Byte) : (s.setE v).cart = s.cart := rfl
@[simp] theorem setE_romBank (v : Byte) : (s.setE v).romBank = s.romBank := rfl
@[simp] theorem setE_ramBank (v : Byte) : (s.setE v).ramBank = s.ramBank := rfl
@[simp] theorem setE_ramEnable (v : Byte) : (s.setE v).ramEnable = s.ramEnable := rfl
@[simp] theorem setE_mbc1Mode (v : Byte) : (s.setE v).mbc1Mode = s.mbc1Mode := rfl
@[simp] theorem setE_hdmaSrc (v : Byte) : (s.setE v).hdmaSrc = s.hdmaSrc := rfl
@[simp] theorem setE_hdmaDst (v : Byte) : (s.setE v).hdmaDst = s.hdmaDst := rfl
@[simp] theorem setE_hdmaActive (v : Byte) : (s.setE v).hdmaActive = s.hdmaActive := rfl
@[simp] theorem setE_hdmaBlocks (v : Byte) : (s.setE v).hdmaBlocks = s.hdmaBlocks := rfl
@[simp] theorem setE_joypIn (v : Byte) : (s.setE v).joypIn = s.joypIn := rfl
@[simp] theorem setE_params (v : Byte) : (s.setE v).params = s.params := rfl

/-! ### setH -/

@[simp] theorem setH_af (v : Byte) : (s.setH v).af = s.af := rfl
@[simp] theorem setH_bc (v : Byte) : (s.setH v).bc = s.bc := rfl
@[simp] theorem setH_de (v : Byte) : (s.setH v).de = s.de := rfl
@[simp] theorem setH_hl (v : Byte) : (s.setH v).hl = joinBytes v s.l := rfl
@[simp] theorem setH_sp (v : Byte) : (s.setH v).sp = s.sp := rfl
@[simp] theorem setH_pc (v : Byte) : (s.setH v).pc = s.pc := rfl
@[simp] theorem setH_ime (v : Byte) : (s.setH v).ime = s.ime := rfl
@[simp] theorem setH_eiPending (v : Byte) : (s.setH v).eiPending = s.eiPending := rfl
@[simp] theorem setH_ie (v : Byte) : (s.setH v).ie = s.ie := rfl
@[simp] theorem setH_io (v : Byte) : (s.setH v).io = s.io := rfl
@[simp] theorem setH_halted (v : Byte) : (s.setH v).halted = s.halted := rfl
@[simp] theorem setH_haltBug (v : Byte) : (s.setH v).haltBug = s.haltBug := rfl
@[simp] theorem setH_stopped (v : Byte) : (s.setH v).stopped = s.stopped := rfl
@[simp] theorem setH_doubleSpeed (v : Byte) : (s.setH v).doubleSpeed = s.doubleSpeed := rfl
@[simp] theorem setH_key1Armed (v : Byte) : (s.setH v).key1Armed = s.key1Armed := rfl
@[simp] theorem setH_cycles (v : Byte) : (s.setH v).cycles = s.cycles := rfl
@[simp] theorem setH_wram (v : Byte) : (s.setH v).wram = s.wram := rfl
@[simp] theorem setH_vram (v : Byte) : (s.setH v).vram = s.vram := rfl
@[simp] theorem setH_oam (v : Byte) : (s.setH v).oam = s.oam := rfl
@[simp] theorem setH_hram (v : Byte) : (s.setH v).hram = s.hram := rfl
@[simp] theorem setH_bgPal (v : Byte) : (s.setH v).bgPal = s.bgPal := rfl
@[simp] theorem setH_objPal (v : Byte) : (s.setH v).objPal = s.objPal := rfl
@[simp] theorem setH_eram (v : Byte) : (s.setH v).eram = s.eram := rfl
@[simp] theorem setH_bootMapped (v : Byte) : (s.setH v).bootMapped = s.bootMapped := rfl
@[simp] theorem setH_bootRom (v : Byte) : (s.setH v).bootRom = s.bootRom := rfl
@[simp] theorem setH_cart (v : Byte) : (s.setH v).cart = s.cart := rfl
@[simp] theorem setH_romBank (v : Byte) : (s.setH v).romBank = s.romBank := rfl
@[simp] theorem setH_ramBank (v : Byte) : (s.setH v).ramBank = s.ramBank := rfl
@[simp] theorem setH_ramEnable (v : Byte) : (s.setH v).ramEnable = s.ramEnable := rfl
@[simp] theorem setH_mbc1Mode (v : Byte) : (s.setH v).mbc1Mode = s.mbc1Mode := rfl
@[simp] theorem setH_hdmaSrc (v : Byte) : (s.setH v).hdmaSrc = s.hdmaSrc := rfl
@[simp] theorem setH_hdmaDst (v : Byte) : (s.setH v).hdmaDst = s.hdmaDst := rfl
@[simp] theorem setH_hdmaActive (v : Byte) : (s.setH v).hdmaActive = s.hdmaActive := rfl
@[simp] theorem setH_hdmaBlocks (v : Byte) : (s.setH v).hdmaBlocks = s.hdmaBlocks := rfl
@[simp] theorem setH_joypIn (v : Byte) : (s.setH v).joypIn = s.joypIn := rfl
@[simp] theorem setH_params (v : Byte) : (s.setH v).params = s.params := rfl

/-! ### setL -/

@[simp] theorem setL_af (v : Byte) : (s.setL v).af = s.af := rfl
@[simp] theorem setL_bc (v : Byte) : (s.setL v).bc = s.bc := rfl
@[simp] theorem setL_de (v : Byte) : (s.setL v).de = s.de := rfl
@[simp] theorem setL_hl (v : Byte) : (s.setL v).hl = joinBytes s.h v := rfl
@[simp] theorem setL_sp (v : Byte) : (s.setL v).sp = s.sp := rfl
@[simp] theorem setL_pc (v : Byte) : (s.setL v).pc = s.pc := rfl
@[simp] theorem setL_ime (v : Byte) : (s.setL v).ime = s.ime := rfl
@[simp] theorem setL_eiPending (v : Byte) : (s.setL v).eiPending = s.eiPending := rfl
@[simp] theorem setL_ie (v : Byte) : (s.setL v).ie = s.ie := rfl
@[simp] theorem setL_io (v : Byte) : (s.setL v).io = s.io := rfl
@[simp] theorem setL_halted (v : Byte) : (s.setL v).halted = s.halted := rfl
@[simp] theorem setL_haltBug (v : Byte) : (s.setL v).haltBug = s.haltBug := rfl
@[simp] theorem setL_stopped (v : Byte) : (s.setL v).stopped = s.stopped := rfl
@[simp] theorem setL_doubleSpeed (v : Byte) : (s.setL v).doubleSpeed = s.doubleSpeed := rfl
@[simp] theorem setL_key1Armed (v : Byte) : (s.setL v).key1Armed = s.key1Armed := rfl
@[simp] theorem setL_cycles (v : Byte) : (s.setL v).cycles = s.cycles := rfl
@[simp] theorem setL_wram (v : Byte) : (s.setL v).wram = s.wram := rfl
@[simp] theorem setL_vram (v : Byte) : (s.setL v).vram = s.vram := rfl
@[simp] theorem setL_oam (v : Byte) : (s.setL v).oam = s.oam := rfl
@[simp] theorem setL_hram (v : Byte) : (s.setL v).hram = s.hram := rfl
@[simp] theorem setL_bgPal (v : Byte) : (s.setL v).bgPal = s.bgPal := rfl
@[simp] theorem setL_objPal (v : Byte) : (s.setL v).objPal = s.objPal := rfl
@[simp] theorem setL_eram (v : Byte) : (s.setL v).eram = s.eram := rfl
@[simp] theorem setL_bootMapped (v : Byte) : (s.setL v).bootMapped = s.bootMapped := rfl
@[simp] theorem setL_bootRom (v : Byte) : (s.setL v).bootRom = s.bootRom := rfl
@[simp] theorem setL_cart (v : Byte) : (s.setL v).cart = s.cart := rfl
@[simp] theorem setL_romBank (v : Byte) : (s.setL v).romBank = s.romBank := rfl
@[simp] theorem setL_ramBank (v : Byte) : (s.setL v).ramBank = s.ramBank := rfl
@[simp] theorem setL_ramEnable (v : Byte) : (s.setL v).ramEnable = s.ramEnable := rfl
@[simp] theorem setL_mbc1Mode (v : Byte) : (s.setL v).mbc1Mode = s.mbc1Mode := rfl
@[simp] theorem setL_hdmaSrc (v : Byte) : (s.setL v).hdmaSrc = s.hdmaSrc := rfl
@[simp] theorem setL_hdmaDst (v : Byte) : (s.setL v).hdmaDst = s.hdmaDst := rfl
@[simp] theorem setL_hdmaActive (v : Byte) : (s.setL v).hdmaActive = s.hdmaActive := rfl
@[simp] theorem setL_hdmaBlocks (v : Byte) : (s.setL v).hdmaBlocks = s.hdmaBlocks := rfl
@[simp] theorem setL_joypIn (v : Byte) : (s.setL v).joypIn = s.joypIn := rfl
@[simp] theorem setL_params (v : Byte) : (s.setL v).params = s.params := rfl

/-! ### setAf -/

@[simp] theorem setAf_af (v : Word) : (s.setAf v).af = joinBytes (hiByte v) (loByte v &&& 0xF0) := rfl
@[simp] theorem setAf_bc (v : Word) : (s.setAf v).bc = s.bc := rfl
@[simp] theorem setAf_de (v : Word) : (s.setAf v).de = s.de := rfl
@[simp] theorem setAf_hl (v : Word) : (s.setAf v).hl = s.hl := rfl
@[simp] theorem setAf_sp (v : Word) : (s.setAf v).sp = s.sp := rfl
@[simp] theorem setAf_pc (v : Word) : (s.setAf v).pc = s.pc := rfl
@[simp] theorem setAf_ime (v : Word) : (s.setAf v).ime = s.ime := rfl
@[simp] theorem setAf_eiPending (v : Word) : (s.setAf v).eiPending = s.eiPending := rfl
@[simp] theorem setAf_ie (v : Word) : (s.setAf v).ie = s.ie := rfl
@[simp] theorem setAf_io (v : Word) : (s.setAf v).io = s.io := rfl
@[simp] theorem setAf_halted (v : Word) : (s.setAf v).halted = s.halted := rfl
@[simp] theorem setAf_haltBug (v : Word) : (s.setAf v).haltBug = s.haltBug := rfl
@[simp] theorem setAf_stopped (v : Word) : (s.setAf v).stopped = s.stopped := rfl
@[simp] theorem setAf_doubleSpeed (v : Word) : (s.setAf v).doubleSpeed = s.doubleSpeed := rfl
@[simp] theorem setAf_key1Armed (v : Word) : (s.setAf v).key1Armed = s.key1Armed := rfl
@[simp] theorem setAf_cycles (v : Word) : (s.setAf v).cycles = s.cycles := rfl
@[simp] theorem setAf_wram (v : Word) : (s.setAf v).wram = s.wram := rfl
@[simp] theorem setAf_vram (v : Word) : (s.setAf v).vram = s.vram := rfl
@[simp] theorem setAf_oam (v : Word) : (s.setAf v).oam = s.oam := rfl
@[simp] theorem setAf_hram (v : Word) : (s.setAf v).hram = s.hram := rfl
@[simp] theorem setAf_bgPal (v : Word) : (s.setAf v).bgPal = s.bgPal := rfl
@[simp] theorem setAf_objPal (v : Word) : (s.setAf v).objPal = s.objPal := rfl
@[simp] theorem setAf_eram (v : Word) : (s.setAf v).eram = s.eram := rfl
@[simp] theorem setAf_bootMapped (v : Word) : (s.setAf v).bootMapped = s.bootMapped := rfl
@[simp] theorem setAf_bootRom (v : Word) : (s.setAf v).bootRom = s.bootRom := rfl
@[simp] theorem setAf_cart (v : Word) : (s.setAf v).cart = s.cart := rfl
@[simp] theorem setAf_romBank (v : Word) : (s.setAf v).romBank = s.romBank := rfl
@[simp] theorem setAf_ramBank (v : Word) : (s.setAf v).ramBank = s.ramBank := rfl
@[simp] theorem setAf_ramEnable (v : Word) : (s.setAf v).ramEnable = s.ramEnable := rfl
@[simp] theorem setAf_mbc1Mode (v : Word) : (s.setAf v).mbc1Mode = s.mbc1Mode := rfl
@[simp] theorem setAf_hdmaSrc (v : Word) : (s.setAf v).hdmaSrc = s.hdmaSrc := rfl
@[simp] theorem setAf_hdmaDst (v : Word) : (s.setAf v).hdmaDst = s.hdmaDst := rfl
@[simp] theorem setAf_hdmaActive (v : Word) : (s.setAf v).hdmaActive = s.hdmaActive := rfl
@[simp] theorem setAf_hdmaBlocks (v : Word) : (s.setAf v).hdmaBlocks = s.hdmaBlocks := rfl
@[simp] theorem setAf_joypIn (v : Word) : (s.setAf v).joypIn = s.joypIn := rfl
@[simp] theorem setAf_params (v : Word) : (s.setAf v).params = s.params := rfl

/-! ### setBc -/

@[simp] theorem setBc_af (v : Word) : (s.setBc v).af = s.af := rfl
@[simp] theorem setBc_bc (v : Word) : (s.setBc v).bc = v := rfl
@[simp] theorem setBc_de (v : Word) : (s.setBc v).de = s.de := rfl
@[simp] theorem setBc_hl (v : Word) : (s.setBc v).hl = s.hl := rfl
@[simp] theorem setBc_sp (v : Word) : (s.setBc v).sp = s.sp := rfl
@[simp] theorem setBc_pc (v : Word) : (s.setBc v).pc = s.pc := rfl
@[simp] theorem setBc_ime (v : Word) : (s.setBc v).ime = s.ime := rfl
@[simp] theorem setBc_eiPending (v : Word) : (s.setBc v).eiPending = s.eiPending := rfl
@[simp] theorem setBc_ie (v : Word) : (s.setBc v).ie = s.ie := rfl
@[simp] theorem setBc_io (v : Word) : (s.setBc v).io = s.io := rfl
@[simp] theorem setBc_halted (v : Word) : (s.setBc v).halted = s.halted := rfl
@[simp] theorem setBc_haltBug (v : Word) : (s.setBc v).haltBug = s.haltBug := rfl
@[simp] theorem setBc_stopped (v : Word) : (s.setBc v).stopped = s.stopped := rfl
@[simp] theorem setBc_doubleSpeed (v : Word) : (s.setBc v).doubleSpeed = s.doubleSpeed := rfl
@[simp] theorem setBc_key1Armed (v : Word) : (s.setBc v).key1Armed = s.key1Armed := rfl
@[simp] theorem setBc_cycles (v : Word) : (s.setBc v).cycles = s.cycles := rfl
@[simp] theorem setBc_wram (v : Word) : (s.setBc v).wram = s.wram := rfl
@[simp] theorem setBc_vram (v : Word) : (s.setBc v).vram = s.vram := rfl
@[simp] theorem setBc_oam (v : Word) : (s.setBc v).oam = s.oam := rfl
@[simp] theorem setBc_hram (v : Word) : (s.setBc v).hram = s.hram := rfl
@[simp] theorem setBc_bgPal (v : Word) : (s.setBc v).bgPal = s.bgPal := rfl
@[simp] theorem setBc_objPal (v : Word) : (s.setBc v).objPal = s.objPal := rfl
@[simp] theorem setBc_eram (v : Word) : (s.setBc v).eram = s.eram := rfl
@[simp] theorem setBc_bootMapped (v : Word) : (s.setBc v).bootMapped = s.bootMapped := rfl
@[simp] theorem setBc_bootRom (v : Word) : (s.setBc v).bootRom = s.bootRom := rfl
@[simp] theorem setBc_cart (v : Word) : (s.setBc v).cart = s.cart := rfl
@[simp] theorem setBc_romBank (v : Word) : (s.setBc v).romBank = s.romBank := rfl
@[simp] theorem setBc_ramBank (v : Word) : (s.setBc v).ramBank = s.ramBank := rfl
@[simp] theorem setBc_ramEnable (v : Word) : (s.setBc v).ramEnable = s.ramEnable := rfl
@[simp] theorem setBc_mbc1Mode (v : Word) : (s.setBc v).mbc1Mode = s.mbc1Mode := rfl
@[simp] theorem setBc_hdmaSrc (v : Word) : (s.setBc v).hdmaSrc = s.hdmaSrc := rfl
@[simp] theorem setBc_hdmaDst (v : Word) : (s.setBc v).hdmaDst = s.hdmaDst := rfl
@[simp] theorem setBc_hdmaActive (v : Word) : (s.setBc v).hdmaActive = s.hdmaActive := rfl
@[simp] theorem setBc_hdmaBlocks (v : Word) : (s.setBc v).hdmaBlocks = s.hdmaBlocks := rfl
@[simp] theorem setBc_joypIn (v : Word) : (s.setBc v).joypIn = s.joypIn := rfl
@[simp] theorem setBc_params (v : Word) : (s.setBc v).params = s.params := rfl

/-! ### setDe -/

@[simp] theorem setDe_af (v : Word) : (s.setDe v).af = s.af := rfl
@[simp] theorem setDe_bc (v : Word) : (s.setDe v).bc = s.bc := rfl
@[simp] theorem setDe_de (v : Word) : (s.setDe v).de = v := rfl
@[simp] theorem setDe_hl (v : Word) : (s.setDe v).hl = s.hl := rfl
@[simp] theorem setDe_sp (v : Word) : (s.setDe v).sp = s.sp := rfl
@[simp] theorem setDe_pc (v : Word) : (s.setDe v).pc = s.pc := rfl
@[simp] theorem setDe_ime (v : Word) : (s.setDe v).ime = s.ime := rfl
@[simp] theorem setDe_eiPending (v : Word) : (s.setDe v).eiPending = s.eiPending := rfl
@[simp] theorem setDe_ie (v : Word) : (s.setDe v).ie = s.ie := rfl
@[simp] theorem setDe_io (v : Word) : (s.setDe v).io = s.io := rfl
@[simp] theorem setDe_halted (v : Word) : (s.setDe v).halted = s.halted := rfl
@[simp] theorem setDe_haltBug (v : Word) : (s.setDe v).haltBug = s.haltBug := rfl
@[simp] theorem setDe_stopped (v : Word) : (s.setDe v).stopped = s.stopped := rfl
@[simp] theorem setDe_doubleSpeed (v : Word) : (s.setDe v).doubleSpeed = s.doubleSpeed := rfl
@[simp] theorem setDe_key1Armed (v : Word) : (s.setDe v).key1Armed = s.key1Armed := rfl
@[simp] theorem setDe_cycles (v : Word) : (s.setDe v).cycles = s.cycles := rfl
@[simp] theorem setDe_wram (v : Word) : (s.setDe v).wram = s.wram := rfl
@[simp] theorem setDe_vram (v : Word) : (s.setDe v).vram = s.vram := rfl
@[simp] theorem setDe_oam (v : Word) : (s.setDe v).oam = s.oam := rfl
@[simp] theorem setDe_hram (v : Word) : (s.setDe v).hram = s.hram := rfl
@[simp] theorem setDe_bgPal (v : Word) : (s.setDe v).bgPal = s.bgPal := rfl
@[simp] theorem setDe_objPal (v : Word) : (s.setDe v).objPal = s.objPal := rfl
@[simp] theorem setDe_eram (v : Word) : (s.setDe v).eram = s.eram := rfl
@[simp] theorem setDe_bootMapped (v : Word) : (s.setDe v).bootMapped = s.bootMapped := rfl
@[simp] theorem setDe_bootRom (v : Word) : (s.setDe v).bootRom = s.bootRom := rfl
@[simp] theorem setDe_cart (v : Word) : (s.setDe v).cart = s.cart := rfl
@[simp] theorem setDe_romBank (v : Word) : (s.setDe v).romBank = s.romBank := rfl
@[simp] theorem setDe_ramBank (v : Word) : (s.setDe v).ramBank = s.ramBank := rfl
@[simp] theorem setDe_ramEnable (v : Word) : (s.setDe v).ramEnable = s.ramEnable := rfl
@[simp] theorem setDe_mbc1Mode (v : Word) : (s.setDe v).mbc1Mode = s.mbc1Mode := rfl
@[simp] theorem setDe_hdmaSrc (v : Word) : (s.setDe v).hdmaSrc = s.hdmaSrc := rfl
@[simp] theorem setDe_hdmaDst (v : Word) : (s.setDe v).hdmaDst = s.hdmaDst := rfl
@[simp] theorem setDe_hdmaActive (v : Word) : (s.setDe v).hdmaActive = s.hdmaActive := rfl
@[simp] theorem setDe_hdmaBlocks (v : Word) : (s.setDe v).hdmaBlocks = s.hdmaBlocks := rfl
@[simp] theorem setDe_joypIn (v : Word) : (s.setDe v).joypIn = s.joypIn := rfl
@[simp] theorem setDe_params (v : Word) : (s.setDe v).params = s.params := rfl

/-! ### setHl -/

@[simp] theorem setHl_af (v : Word) : (s.setHl v).af = s.af := rfl
@[simp] theorem setHl_bc (v : Word) : (s.setHl v).bc = s.bc := rfl
@[simp] theorem setHl_de (v : Word) : (s.setHl v).de = s.de := rfl
@[simp] theorem setHl_hl (v : Word) : (s.setHl v).hl = v := rfl
@[simp] theorem setHl_sp (v : Word) : (s.setHl v).sp = s.sp := rfl
@[simp] theorem setHl_pc (v : Word) : (s.setHl v).pc = s.pc := rfl
@[simp] theorem setHl_ime (v : Word) : (s.setHl v).ime = s.ime := rfl
@[simp] theorem setHl_eiPending (v : Word) : (s.setHl v).eiPending = s.eiPending := rfl
@[simp] theorem setHl_ie (v : Word) : (s.setHl v).ie = s.ie := rfl
@[simp] theorem setHl_io (v : Word) : (s.setHl v).io = s.io := rfl
@[simp] theorem setHl_halted (v : Word) : (s.setHl v).halted = s.halted := rfl
@[simp] theorem setHl_haltBug (v : Word) : (s.setHl v).haltBug = s.haltBug := rfl
@[simp] theorem setHl_stopped (v : Word) : (s.setHl v).stopped = s.stopped := rfl
@[simp] theorem setHl_doubleSpeed (v : Word) : (s.setHl v).doubleSpeed = s.doubleSpeed := rfl
@[simp] theorem setHl_key1Armed (v : Word) : (s.setHl v).key1Armed = s.key1Armed := rfl
@[simp] theorem setHl_cycles (v : Word) : (s.setHl v).cycles = s.cycles := rfl
@[simp] theorem setHl_wram (v : Word) : (s.setHl v).wram = s.wram := rfl
@[simp] theorem setHl_vram (v : Word) : (s.setHl v).vram = s.vram := rfl
@[simp] theorem setHl_oam (v : Word) : (s.setHl v).oam = s.oam := rfl
@[simp] theorem setHl_hram (v : Word) : (s.setHl v).hram = s.hram := rfl
@[simp] theorem setHl_bgPal (v : Word) : (s.setHl v).bgPal = s.bgPal := rfl
@[simp] theorem setHl_objPal (v : Word) : (s.setHl v).objPal = s.objPal := rfl
@[simp] theorem setHl_eram (v : Word) : (s.setHl v).eram = s.eram := rfl
@[simp] theorem setHl_bootMapped (v : Word) : (s.setHl v).bootMapped = s.bootMapped := rfl
@[simp] theorem setHl_bootRom (v : Word) : (s.setHl v).bootRom = s.bootRom := rfl
@[simp] theorem setHl_cart (v : Word) : (s.setHl v).cart = s.cart := rfl
@[simp] theorem setHl_romBank (v : Word) : (s.setHl v).romBank = s.romBank := rfl
@[simp] theorem setHl_ramBank (v : Word) : (s.setHl v).ramBank = s.ramBank := rfl
@[simp] theorem setHl_ramEnable (v : Word) : (s.setHl v).ramEnable = s.ramEnable := rfl
@[simp] theorem setHl_mbc1Mode (v : Word) : (s.setHl v).mbc1Mode = s.mbc1Mode := rfl
@[simp] theorem setHl_hdmaSrc (v : Word) : (s.setHl v).hdmaSrc = s.hdmaSrc := rfl
@[simp] theorem setHl_hdmaDst (v : Word) : (s.setHl v).hdmaDst = s.hdmaDst := rfl
@[simp] theorem setHl_hdmaActive (v : Word) : (s.setHl v).hdmaActive = s.hdmaActive := rfl
@[simp] theorem setHl_hdmaBlocks (v : Word) : (s.setHl v).hdmaBlocks = s.hdmaBlocks := rfl
@[simp] theorem setHl_joypIn (v : Word) : (s.setHl v).joypIn = s.joypIn := rfl
@[simp] theorem setHl_params (v : Word) : (s.setHl v).params = s.params := rfl

/-! ### setSp -/

@[simp] theorem setSp_af (v : Word) : (s.setSp v).af = s.af := rfl
@[simp] theorem setSp_bc (v : Word) : (s.setSp v).bc = s.bc := rfl
@[simp] theorem setSp_de (v : Word) : (s.setSp v).de = s.de := rfl
@[simp] theorem setSp_hl (v : Word) : (s.setSp v).hl = s.hl := rfl
@[simp] theorem setSp_sp (v : Word) : (s.setSp v).sp = v := rfl
@[simp] theorem setSp_pc (v : Word) : (s.setSp v).pc = s.pc := rfl
@[simp] theorem setSp_ime (v : Word) : (s.setSp v).ime = s.ime := rfl
@[simp] theorem setSp_eiPending (v : Word) : (s.setSp v).eiPending = s.eiPending := rfl
@[simp] theorem setSp_ie (v : Word) : (s.setSp v).ie = s.ie := rfl
@[simp] theorem setSp_io (v : Word) : (s.setSp v).io = s.io := rfl
@[simp] theorem setSp_halted (v : Word) : (s.setSp v).halted = s.halted := rfl
@[simp] theorem setSp_haltBug (v : Word) : (s.setSp v).haltBug = s.haltBug := rfl
@[simp] theorem setSp_stopped (v : Word) : (s.setSp v).stopped = s.stopped := rfl
@[simp] theorem setSp_doubleSpeed (v : Word) : (s.setSp v).doubleSpeed = s.doubleSpeed := rfl
@[simp] theorem setSp_key1Armed (v : Word) : (s.setSp v).key1Armed = s.key1Armed := rfl
@[simp] theorem setSp_cycles (v : Word) : (s.setSp v).cycles = s.cycles := rfl
@[simp] theorem setSp_wram (v : Word) : (s.setSp v).wram = s.wram := rfl
@[simp] theorem setSp_vram (v : Word) : (s.setSp v).vram = s.vram := rfl
@[simp] theorem setSp_oam (v : Word) : (s.setSp v).oam = s.oam := rfl
@[simp] theorem setSp_hram (v : Word) : (s.setSp v).hram = s.hram := rfl
@[simp] theorem setSp_bgPal (v : Word) : (s.setSp v).bgPal = s.bgPal := rfl
@[simp] theorem setSp_objPal (v : Word) : (s.setSp v).objPal = s.objPal := rfl
@[simp] theorem setSp_eram (v : Word) : (s.setSp v).eram = s.eram := rfl
@[simp] theorem setSp_bootMapped (v : Word) : (s.setSp v).bootMapped = s.bootMapped := rfl
@[simp] theorem setSp_bootRom (v : Word) : (s.setSp v).bootRom = s.bootRom := rfl
@[simp] theorem setSp_cart (v : Word) : (s.setSp v).cart = s.cart := rfl
@[simp] theorem setSp_romBank (v : Word) : (s.setSp v).romBank = s.romBank := rfl
@[simp] theorem setSp_ramBank (v : Word) : (s.setSp v).ramBank = s.ramBank := rfl
@[simp] theorem setSp_ramEnable (v : Word) : (s.setSp v).ramEnable = s.ramEnable := rfl
@[simp] theorem setSp_mbc1Mode (v : Word) : (s.setSp v).mbc1Mode = s.mbc1Mode := rfl
@[simp] theorem setSp_hdmaSrc (v : Word) : (s.setSp v).hdmaSrc = s.hdmaSrc := rfl
@[simp] theorem setSp_hdmaDst (v : Word) : (s.setSp v).hdmaDst = s.hdmaDst := rfl
@[simp] theorem setSp_hdmaActive (v : Word) : (s.setSp v).hdmaActive = s.hdmaActive := rfl
@[simp] theorem setSp_hdmaBlocks (v : Word) : (s.setSp v).hdmaBlocks = s.hdmaBlocks := rfl
@[simp] theorem setSp_joypIn (v : Word) : (s.setSp v).joypIn = s.joypIn := rfl
@[simp] theorem setSp_params (v : Word) : (s.setSp v).params = s.params := rfl

/-! ### setPc -/

@[simp] theorem setPc_af (v : Word) : (s.setPc v).af = s.af := rfl
@[simp] theorem setPc_bc (v : Word) : (s.setPc v).bc = s.bc := rfl
@[simp] theorem setPc_de (v : Word) : (s.setPc v).de = s.de := rfl
@[simp] theorem setPc_hl (v : Word) : (s.setPc v).hl = s.hl := rfl
@[simp] theorem setPc_sp (v : Word) : (s.setPc v).sp = s.sp := rfl
@[simp] theorem setPc_pc (v : Word) : (s.setPc v).pc = v := rfl
@[simp] theorem setPc_ime (v : Word) : (s.setPc v).ime = s.ime := rfl
@[simp] theorem setPc_eiPending (v : Word) : (s.setPc v).eiPending = s.eiPending := rfl
@[simp] theorem setPc_ie (v : Word) : (s.setPc v).ie = s.ie := rfl
@[simp] theorem setPc_io (v : Word) : (s.setPc v).io = s.io := rfl
@[simp] theorem setPc_halted (v : Word) : (s.setPc v).halted = s.halted := rfl
@[simp] theorem setPc_haltBug (v : Word) : (s.setPc v).haltBug = s.haltBug := rfl
@[simp] theorem setPc_stopped (v : Word) : (s.setPc v).stopped = s.stopped := rfl
@[simp] theorem setPc_doubleSpeed (v : Word) : (s.setPc v).doubleSpeed = s.doubleSpeed := rfl
@[simp] theorem setPc_key1Armed (v : Word) : (s.setPc v).key1Armed = s.key1Armed := rfl
@[simp] theorem setPc_cycles (v : Word) : (s.setPc v).cycles = s.cycles := rfl
@[simp] theorem setPc_wram (v : Word) : (s.setPc v).wram = s.wram := rfl
@[simp] theorem setPc_vram (v : Word) : (s.setPc v).vram = s.vram := rfl
@[simp] theorem setPc_oam (v : Word) : (s.setPc v).oam = s.oam := rfl
@[simp] theorem setPc_hram (v : Word) : (s.setPc v).hram = s.hram := rfl
@[simp] theorem setPc_bgPal (v : Word) : (s.setPc v).bgPal = s.bgPal := rfl
@[simp] theorem setPc_objPal (v : Word) : (s.setPc v).objPal = s.objPal := rfl
@[simp] theorem setPc_eram (v : Word) : (s.setPc v).eram = s.eram := rfl
@[simp] theorem setPc_bootMapped (v : Word) : (s.setPc v).bootMapped = s.bootMapped := rfl
@[simp] theorem setPc_bootRom (v : Word) : (s.setPc v).bootRom = s.bootRom := rfl
@[simp] theorem setPc_cart (v : Word) : (s.setPc v).cart = s.cart := rfl
@[simp] theorem setPc_romBank (v : Word) : (s.setPc v).romBank = s.romBank := rfl
@[simp] theorem setPc_ramBank (v : Word) : (s.setPc v).ramBank = s.ramBank := rfl
@[simp] theorem setPc_ramEnable (v : Word) : (s.setPc v).ramEnable = s.ramEnable := rfl
@[simp] theorem setPc_mbc1Mode (v : Word) : (s.setPc v).mbc1Mode = s.mbc1Mode := rfl
@[simp] theorem setPc_hdmaSrc (v : Word) : (s.setPc v).hdmaSrc = s.hdmaSrc := rfl
@[simp] theorem setPc_hdmaDst (v : Word) : (s.setPc v).hdmaDst = s.hdmaDst := rfl
@[simp] theorem setPc_hdmaActive (v : Word) : (s.setPc v).hdmaActive = s.hdmaActive := rfl
@[simp] theorem setPc_hdmaBlocks (v : Word) : (s.setPc v).hdmaBlocks = s.hdmaBlocks := rfl
@[simp] theorem setPc_joypIn (v : Word) : (s.setPc v).joypIn = s.joypIn := rfl
@[simp] theorem setPc_params (v : Word) : (s.setPc v).params = s.params := rfl

/-! ### setIme -/

@[simp] theorem setIme_af (v : Bool) : (s.setIme v).af = s.af := rfl
@[simp] theorem setIme_bc (v : Bool) : (s.setIme v).bc = s.bc := rfl
@[simp] theorem setIme_de (v : Bool) : (s.setIme v).de = s.de := rfl
@[simp] theorem setIme_hl (v : Bool) : (s.setIme v).hl = s.hl := rfl
@[simp] theorem setIme_sp (v : Bool) : (s.setIme v).sp = s.sp := rfl
@[simp] theorem setIme_pc (v : Bool) : (s.setIme v).pc = s.pc := rfl
@[simp] theorem setIme_ime (v : Bool) : (s.setIme v).ime = v := rfl
@[simp] theorem setIme_eiPending (v : Bool) : (s.setIme v).eiPending = s.eiPending := rfl
@[simp] theorem setIme_ie (v : Bool) : (s.setIme v).ie = s.ie := rfl
@[simp] theorem setIme_io (v : Bool) : (s.setIme v).io = s.io := rfl
@[simp] theorem setIme_halted (v : Bool) : (s.setIme v).halted = s.halted := rfl
@[simp] theorem setIme_haltBug (v : Bool) : (s.setIme v).haltBug = s.haltBug := rfl
@[simp] theorem setIme_stopped (v : Bool) : (s.setIme v).stopped = s.stopped := rfl
@[simp] theorem setIme_doubleSpeed (v : Bool) : (s.setIme v).doubleSpeed = s.doubleSpeed := rfl
@[simp] theorem setIme_key1Armed (v : Bool) : (s.setIme v).key1Armed = s.key1Armed := rfl
@[simp] theorem setIme_cycles (v : Bool) : (s.setIme v).cycles = s.cycles := rfl
@[simp] theorem setIme_wram (v : Bool) : (s.setIme v).wram = s.wram := rfl
@[simp] theorem setIme_vram (v : Bool) : (s.setIme v).vram = s.vram := rfl
@[simp] theorem setIme_oam (v : Bool) : (s.setIme v).oam = s.oam := rfl
@[simp] theorem setIme_hram (v : Bool) : (s.setIme v).hram = s.hram := rfl
@[simp] theorem setIme_bgPal (v : Bool) : (s.setIme v).bgPal = s.bgPal := rfl
@[simp] theorem setIme_objPal (v : Bool) : (s.setIme v).objPal = s.objPal := rfl
@[simp] theorem setIme_eram (v : Bool) : (s.setIme v).eram = s.eram := rfl
@[simp] theorem setIme_bootMapped (v : Bool) : (s.setIme v).bootMapped = s.bootMapped := rfl
@[simp] theorem setIme_bootRom (v : Bool) : (s.setIme v).bootRom = s.bootRom := rfl
@[simp] theorem setIme_cart (v : Bool) : (s.setIme v).cart = s.cart := rfl
@[simp] theorem setIme_romBank (v : Bool) : (s.setIme v).romBank = s.romBank := rfl
@[simp] theorem setIme_ramBank (v : Bool) : (s.setIme v).ramBank = s.ramBank := rfl
@[simp] theorem setIme_ramEnable (v : Bool) : (s.setIme v).ramEnable = s.ramEnable := rfl
@[simp] theorem setIme_mbc1Mode (v : Bool) : (s.setIme v).mbc1Mode = s.mbc1Mode := rfl
@[simp] theorem setIme_hdmaSrc (v : Bool) : (s.setIme v).hdmaSrc = s.hdmaSrc := rfl
@[simp] theorem setIme_hdmaDst (v : Bool) : (s.setIme v).hdmaDst = s.hdmaDst := rfl
@[simp] theorem setIme_hdmaActive (v : Bool) : (s.setIme v).hdmaActive = s.hdmaActive := rfl
@[simp] theorem setIme_hdmaBlocks (v : Bool) : (s.setIme v).hdmaBlocks = s.hdmaBlocks := rfl
@[simp] theorem setIme_joypIn (v : Bool) : (s.setIme v).joypIn = s.joypIn := rfl
@[simp] theorem setIme_params (v : Bool) : (s.setIme v).params = s.params := rfl

/-! ### setFlags -/

@[simp] theorem setFlags_af (z n h c : Bool) : (s.setFlags z n h c).af = joinBytes s.a (packFlags z n h c &&& 0xF0) := rfl
@[simp] theorem setFlags_bc (z n h c : Bool) : (s.setFlags z n h c).bc = s.bc := rfl
@[simp] theorem setFlags_de (z n h c : Bool) : (s.setFlags z n h c).de = s.de := rfl
@[simp] theorem setFlags_hl (z n h c : Bool) : (s.setFlags z n h c).hl = s.hl := rfl
@[simp] theorem setFlags_sp (z n h c : Bool) : (s.setFlags z n h c).sp = s.sp := rfl
@[simp] theorem setFlags_pc (z n h c : Bool) : (s.setFlags z n h c).pc = s.pc := rfl
@[simp] theorem setFlags_ime (z n h c : Bool) : (s.setFlags z n h c).ime = s.ime := rfl
@[simp] theorem setFlags_eiPending (z n h c : Bool) : (s.setFlags z n h c).eiPending = s.eiPending := rfl
@[simp] theorem setFlags_ie (z n h c : Bool) : (s.setFlags z n h c).ie = s.ie := rfl
@[simp] theorem setFlags_io (z n h c : Bool) : (s.setFlags z n h c).io = s.io := rfl
@[simp] theorem setFlags_halted (z n h c : Bool) : (s.setFlags z n h c).halted = s.halted := rfl
@[simp] theorem setFlags_haltBug (z n h c : Bool) : (s.setFlags z n h c).haltBug = s.haltBug := rfl
@[simp] theorem setFlags_stopped (z n h c : Bool) : (s.setFlags z n h c).stopped = s.stopped := rfl
@[simp] theorem setFlags_doubleSpeed (z n h c : Bool) : (s.setFlags z n h c).doubleSpeed = s.doubleSpeed := rfl
@[simp] theorem setFlags_key1Armed (z n h c : Bool) : (s.setFlags z n h c).key1Armed = s.key1Armed := rfl
@[simp] theorem setFlags_cycles (z n h c : Bool) : (s.setFlags z n h c).cycles = s.cycles := rfl
@[simp] theorem setFlags_wram (z n h c : Bool) : (s.setFlags z n h c).wram = s.wram := rfl
@[simp] theorem setFlags_vram (z n h c : Bool) : (s.setFlags z n h c).vram = s.vram := rfl
@[simp] theorem setFlags_oam (z n h c : Bool) : (s.setFlags z n h c).oam = s.oam := rfl
@[simp] theorem setFlags_hram (z n h c : Bool) : (s.setFlags z n h c).hram = s.hram := rfl
@[simp] theorem setFlags_bgPal (z n h c : Bool) : (s.setFlags z n h c).bgPal = s.bgPal := rfl
@[simp] theorem setFlags_objPal (z n h c : Bool) : (s.setFlags z n h c).objPal = s.objPal := rfl
@[simp] theorem setFlags_eram (z n h c : Bool) : (s.setFlags z n h c).eram = s.eram := rfl
@[simp] theorem setFlags_bootMapped (z n h c : Bool) : (s.setFlags z n h c).bootMapped = s.bootMapped := rfl
@[simp] theorem setFlags_bootRom (z n h c : Bool) : (s.setFlags z n h c).bootRom = s.bootRom := rfl
@[simp] theorem setFlags_cart (z n h c : Bool) : (s.setFlags z n h c).cart = s.cart := rfl
@[simp] theorem setFlags_romBank (z n h c : Bool) : (s.setFlags z n h c).romBank = s.romBank := rfl
@[simp] theorem setFlags_ramBank (z n h c : Bool) : (s.setFlags z n h c).ramBank = s.ramBank := rfl
@[simp] theorem setFlags_ramEnable (z n h c : Bool) : (s.setFlags z n h c).ramEnable = s.ramEnable := rfl
@[simp] theorem setFlags_mbc1Mode (z n h c : Bool) : (s.setFlags z n h c).mbc1Mode = s.mbc1Mode := rfl
@[simp] theorem setFlags_hdmaSrc (z n h c : Bool) : (s.setFlags z n h c).hdmaSrc = s.hdmaSrc := rfl
@[simp] theorem setFlags_hdmaDst (z n h c : Bool) : (s.setFlags z n h c).hdmaDst = s.hdmaDst := rfl
@[simp] theorem setFlags_hdmaActive (z n h c : Bool) : (s.setFlags z n h c).hdmaActive = s.hdmaActive := rfl
@[simp] theorem setFlags_hdmaBlocks (z n h c : Bool) : (s.setFlags z n h c).hdmaBlocks = s.hdmaBlocks := rfl
@[simp] theorem setFlags_joypIn (z n h c : Bool) : (s.setFlags z n h c).joypIn = s.joypIn := rfl
@[simp] theorem setFlags_params (z n h c : Bool) : (s.setFlags z n h c).params = s.params := rfl

end Sys2Proof.Laws
end

