-- ==== Sys2Proof/Laws/Bus.lean ====
section
/-! SUPPORT. What a bus write can do: it leaves the CPU, the cartridge, the parameters and the host input alone, and a copy
changes one array. -/

namespace Sys2Proof.Laws

open Sys2Proof Sys2Proof.Machine

/-- The fields no bus write touches are the same in both states. -/
structure Keeps (s t : State) : Prop where
  af : t.af = s.af
  bc : t.bc = s.bc
  de : t.de = s.de
  hl : t.hl = s.hl
  sp : t.sp = s.sp
  pc : t.pc = s.pc
  ime : t.ime = s.ime
  eiPending : t.eiPending = s.eiPending
  halted : t.halted = s.halted
  haltBug : t.haltBug = s.haltBug
  stopped : t.stopped = s.stopped
  doubleSpeed : t.doubleSpeed = s.doubleSpeed
  cycles : t.cycles = s.cycles
  bootRom : t.bootRom = s.bootRom
  cart : t.cart = s.cart
  joypIn : t.joypIn = s.joypIn
  params : t.params = s.params

theorem Keeps.refl (s : State) : Keeps s s := by constructor <;> rfl

/-- OAM DMA changes OAM only (20 R89). -/
theorem oamCopy_eq (page : Byte) (n : Nat) : ∀ (i : Nat) (s : State), ∃ m, oamCopy page n i s = { s with oam := m } := by
  induction n with
  | zero => intro i s; exact ⟨s.oam, rfl⟩
  | succ n ih =>
    intro i s
    obtain ⟨m, hm⟩ := ih (i + 1) { s with oam := s.oam.write i (s.busRead (BitVec.ofNat 16 (page.toNat * 256 + i))) }
    exact ⟨m, hm⟩

/-- An HDMA copy changes VRAM only (20 R91, R92). -/
theorem vramCopy_eq (src dst : Word) (n : Nat) :
    ∀ (i : Nat) (s : State), ∃ m, vramCopy src dst n i s = { s with vram := m } := by
  induction n with
  | zero => intro i s; exact ⟨s.vram, rfl⟩
  | succ n ih =>
    intro i s
    obtain ⟨m, hm⟩ := ih (i + 1)
      { s with vram := s.vram.write (s.vramIndex ((dst.toNat + i) % 0x2000)) (s.busRead (src + BitVec.ofNat 16 i)) }
    exact ⟨m, hm⟩

/-- A stored port reads back what was stored (20 R80). -/
@[simp] theorem port_setPort_same (s : State) (p : BitVec 7) (v : Byte) : (s.setPort p v).port p = v :=
  Vector.getElem_set_self p.isLt

/-- Storing a port leaves every other port (20 R80). -/
theorem port_setPort_ne (s : State) {p q : BitVec 7} (h : q ≠ p) (v : Byte) : (s.setPort p v).port q = s.port q :=
  Vector.getElem_set_ne p.isLt q.isLt (fun e => h (BitVec.eq_of_toNat_eq e.symm))

theorem setPort_keeps (s : State) (p : BitVec 7) (v : Byte) : Keeps s (s.setPort p v) := by constructor <;> rfl

theorem mbcWrite_keeps (s : State) (a : Nat) (v : Byte) : Keeps s (s.mbcWrite a v) := by
  unfold State.mbcWrite
  split
  · exact Keeps.refl s
  · split
    · constructor <;> rfl
    · split
      · constructor <;> rfl
      · split
        · split <;> constructor <;> rfl
        · constructor <;> rfl
  · split
    · constructor <;> rfl
    · split
      · constructor <;> rfl
      · split
        · constructor <;> rfl
        · split
          · constructor <;> rfl
          · exact Keeps.refl s

theorem eramWrite_keeps (s : State) (a : Nat) (v : Byte) : Keeps s (s.eramWrite a v) := by
  unfold State.eramWrite
  split <;> constructor <;> rfl

theorem writeHdma5_keeps (s : State) (v : Byte) : Keeps s (s.writeHdma5 v) := by
  unfold State.writeHdma5
  split
  · constructor <;> rfl
  · split
    · constructor <;> rfl
    · obtain ⟨m, hm⟩ := vramCopy_eq s.hdmaSource s.hdmaDest ((v.toNat % 128 + 1) * 16) 0 s
      simp only [hm]
      constructor <;> rfl

theorem writeDma_keeps (s : State) (v : Byte) : Keeps s (s.writeDma v) := by
  obtain ⟨m, hm⟩ := oamCopy_eq v 160 0 (s.setPort 0x46 v)
  rw [State.writeDma, hm]
  constructor <;> rfl

theorem writePort_keeps (s : State) (p : BitVec 7) (v : Byte) : Keeps s (s.writePort p v) := by
  unfold State.writePort
  split
  · exact setPort_keeps s _ _
  split
  · exact setPort_keeps s _ _
  split
  · unfold State.writeIf; split <;> exact setPort_keeps s _ _
  split
  · exact writeDma_keeps s v
  split
  · constructor <;> rfl
  split
  · constructor <;> rfl
  split
  · exact writeHdma5_keeps s v
  split
  · constructor <;> rfl
  split
  · constructor <;> rfl
  · exact setPort_keeps s _ _

/-- No bus write touches the CPU, the cartridge, the parameters or the host input (20 R62, R70). -/
theorem busWrite_keeps (s : State) (a : Word) (v : Byte) : Keeps s (s.busWrite a v) := by
  unfold State.busWrite
  split
  · exact mbcWrite_keeps s _ v
  · exact mbcWrite_keeps s _ v
  · constructor <;> rfl
  · exact eramWrite_keeps s _ v
  · constructor <;> rfl
  · constructor <;> rfl
  · constructor <;> rfl
  · constructor <;> rfl
  · exact Keeps.refl s
  · exact writePort_keeps s _ v
  · constructor <;> rfl
  · constructor <;> rfl

variable (s : State) (a : Word) (v : Byte)

@[simp] theorem busWrite_af : (s.busWrite a v).af = s.af := (busWrite_keeps s a v).af
@[simp] theorem busWrite_bc : (s.busWrite a v).bc = s.bc := (busWrite_keeps s a v).bc
@[simp] theorem busWrite_de : (s.busWrite a v).de = s.de := (busWrite_keeps s a v).de
@[simp] theorem busWrite_hl : (s.busWrite a v).hl = s.hl := (busWrite_keeps s a v).hl
@[simp] theorem busWrite_sp : (s.busWrite a v).sp = s.sp := (busWrite_keeps s a v).sp
@[simp] theorem busWrite_pc : (s.busWrite a v).pc = s.pc := (busWrite_keeps s a v).pc
@[simp] theorem busWrite_ime : (s.busWrite a v).ime = s.ime := (busWrite_keeps s a v).ime
@[simp] theorem busWrite_eiPending : (s.busWrite a v).eiPending = s.eiPending := (busWrite_keeps s a v).eiPending
@[simp] theorem busWrite_halted : (s.busWrite a v).halted = s.halted := (busWrite_keeps s a v).halted
@[simp] theorem busWrite_haltBug : (s.busWrite a v).haltBug = s.haltBug := (busWrite_keeps s a v).haltBug
@[simp] theorem busWrite_stopped : (s.busWrite a v).stopped = s.stopped := (busWrite_keeps s a v).stopped
@[simp] theorem busWrite_doubleSpeed : (s.busWrite a v).doubleSpeed = s.doubleSpeed := (busWrite_keeps s a v).doubleSpeed
@[simp] theorem busWrite_cycles : (s.busWrite a v).cycles = s.cycles := (busWrite_keeps s a v).cycles
@[simp] theorem busWrite_bootRom : (s.busWrite a v).bootRom = s.bootRom := (busWrite_keeps s a v).bootRom
@[simp] theorem busWrite_cart : (s.busWrite a v).cart = s.cart := (busWrite_keeps s a v).cart
@[simp] theorem busWrite_joypIn : (s.busWrite a v).joypIn = s.joypIn := (busWrite_keeps s a v).joypIn
@[simp] theorem busWrite_params : (s.busWrite a v).params = s.params := (busWrite_keeps s a v).params

/-- Push16 moves SP by two and is otherwise two bus writes (20 R66). -/
theorem push16_eq (w : Word) :
    s.push16 w =
      (((s.setSp (s.sp - 1)).busWrite (s.sp - 1) (hiByte w)).setSp (s.sp - 2)).busWrite (s.sp - 2) (loByte w) := by
  have h : s.sp - 1 - 1 = s.sp - 2 := by bv_omega
  simp only [State.push16, setSp_sp, busWrite_sp, h]

@[simp] theorem push16_sp (w : Word) : (s.push16 w).sp = s.sp - 2 := by simp [push16_eq]
@[simp] theorem push16_af (w : Word) : (s.push16 w).af = s.af := by simp [push16_eq]
@[simp] theorem push16_bc (w : Word) : (s.push16 w).bc = s.bc := by simp [push16_eq]
@[simp] theorem push16_de (w : Word) : (s.push16 w).de = s.de := by simp [push16_eq]
@[simp] theorem push16_hl (w : Word) : (s.push16 w).hl = s.hl := by simp [push16_eq]
@[simp] theorem push16_pc (w : Word) : (s.push16 w).pc = s.pc := by simp [push16_eq]
@[simp] theorem push16_ime (w : Word) : (s.push16 w).ime = s.ime := by simp [push16_eq]
@[simp] theorem push16_eiPending (w : Word) : (s.push16 w).eiPending = s.eiPending := by simp [push16_eq]
@[simp] theorem push16_halted (w : Word) : (s.push16 w).halted = s.halted := by simp [push16_eq]
@[simp] theorem push16_haltBug (w : Word) : (s.push16 w).haltBug = s.haltBug := by simp [push16_eq]
@[simp] theorem push16_stopped (w : Word) : (s.push16 w).stopped = s.stopped := by simp [push16_eq]
@[simp] theorem push16_doubleSpeed (w : Word) : (s.push16 w).doubleSpeed = s.doubleSpeed := by simp [push16_eq]
@[simp] theorem push16_cycles (w : Word) : (s.push16 w).cycles = s.cycles := by simp [push16_eq]
@[simp] theorem push16_bootRom (w : Word) : (s.push16 w).bootRom = s.bootRom := by simp [push16_eq]
@[simp] theorem push16_cart (w : Word) : (s.push16 w).cart = s.cart := by simp [push16_eq]
@[simp] theorem push16_joypIn (w : Word) : (s.push16 w).joypIn = s.joypIn := by simp [push16_eq]
@[simp] theorem push16_params (w : Word) : (s.push16 w).params = s.params := by simp [push16_eq]

/-- The state of a dispatch after its push (60 R408). -/
def dispatchPushed (s : State) : State := { s with haltBug := false }.push16 (if s.haltBug then s.pc - 1 else s.pc)

/-- What a dispatch does, in one record (60 R408, R415). -/
theorem dispatch_eq (i : Nat) :
    s.dispatch i =
      { dispatchPushed s with
        ime := false, eiPending := false, halted := false, pc := BitVec.ofNat 16 (0x0040 + 8 * i)
        io := (dispatchPushed s).io.set 0x0F ((dispatchPushed s).ifReg &&& ~~~((1 : Byte) <<< i)) } := rfl

end Sys2Proof.Laws
end

