-- ==== Sys2Proof/Laws/Inv.lean ====
section
/-! SUPPORT. The address windows' bounds, and that the shared operations over memory and registers keep the invariant. -/

namespace Sys2Proof.Laws

open Sys2Proof Sys2Proof.Machine

/-- The address range of a region (20 R60). -/
def regionRange : Region → Nat × Nat
  | .rom0 => (0x0000, 0x4000) | .romX => (0x4000, 0x8000) | .vram => (0x8000, 0xA000) | .eram => (0xA000, 0xC000)
  | .wram0 => (0xC000, 0xD000) | .wramX => (0xD000, 0xE000) | .echo => (0xE000, 0xFE00) | .oam => (0xFE00, 0xFEA0)
  | .unusable => (0xFEA0, 0xFF00) | .io => (0xFF00, 0xFF80) | .hram => (0xFF80, 0xFFFF) | .ie => (0xFFFF, 0x10000)

/-- An address lies in the range of its region. -/
theorem resolve_range (a : Word) : (regionRange (resolve a)).1 ≤ a.toNat ∧ a.toNat < (regionRange (resolve a)).2 := by
  have := a.isLt
  unfold resolve
  dsimp only
  repeat' split
  all_goals simp only [regionRange]; omega

theorem resolve_bounds {a : Word} {r : Region} (h : resolve a = r) : (regionRange r).1 ≤ a.toNat ∧ a.toNat < (regionRange r).2 :=
  h ▸ resolve_range a

/-- The region of an address in a region's range. -/
theorem resolve_of_range {a : Word} {r : Region} (h : (regionRange r).1 ≤ a.toNat) (h' : a.toNat < (regionRange r).2) :
    resolve a = r := by
  have hr := resolve_range a
  generalize resolve a = q at hr
  cases q <;> cases r <;> first | rfl | (simp only [regionRange] at h h' hr; omega)

variable {s : State}

theorem vramIndex_lt {off : Nat} (h : off < 0x2000) : s.vramIndex off < 0x4000 := by
  unfold State.vramIndex State.vramBank
  omega

theorem wramBank_range : 1 ≤ s.wramBank ∧ s.wramBank < 8 := by
  unfold State.wramBank
  dsimp only
  split <;> omega

theorem wramIndex_lt {a : Nat} (h : 0xC000 ≤ a) (h' : a < 0xE000) : s.wramIndex a < 0x8000 := by
  have := wramBank_range (s := s)
  unfold State.wramIndex
  split <;> omega

theorem eramIndex_lt {a : Nat} (h : s.cart.ramSize ≠ 0) : s.eramIndex a < s.cart.ramSize :=
  Nat.mod_lt _ (Nat.pos_of_ne_zero h)

theorem vramDest_block (dst : Word) (k : Nat) (h : dst &&& 0xE00F = 0x8000) (hk : k % 16 = 0) :
    vramDest dst k &&& 0xE00F = 0x8000 := by
  have h1 : dst.toNat % 16 = 0 := by
    have : (dst &&& 0xE00F).toNat % 16 = 0 := by rw [h]; rfl
    have e : dst.toNat % 2 ^ 4 = (dst &&& 0xE00F).toNat % 2 ^ 4 := by
      rw [← BitVec.toNat_setWidth, ← BitVec.toNat_setWidth]
      congr 1
      ext i hi
      simp only [BitVec.getElem_setWidth, BitVec.getLsbD_and]
      have : i = 0 ∨ i = 1 ∨ i = 2 ∨ i = 3 := by omega
      rcases this with rfl | rfl | rfl | rfl <;> simp
    simpa using e.trans this
  have h2 : ∀ m < 512, (0x8000#16 ||| BitVec.ofNat 16 (16 * m)) &&& 0xE00F#16 = 0x8000#16 := by decide +kernel
  have h3 : (dst.toNat + k) % 0x2000 = 16 * ((dst.toNat + k) % 0x2000 / 16) := by omega
  unfold vramDest
  rw [h3]
  exact h2 _ (by omega)

/-- The destination HDMA3 and HDMA4 give is a block of VRAM. -/
theorem hdmaDest_block (w : Word) : (0x8000#16 ||| (w &&& 0x1FF0#16)) &&& 0xE00F#16 = 0x8000#16 := by
  apply BitVec.eq_of_getLsbD_eq
  intro i hi
  have : i = 0 ∨ i = 1 ∨ i = 2 ∨ i = 3 ∨ i = 4 ∨ i = 5 ∨ i = 6 ∨ i = 7 ∨ i = 8 ∨ i = 9 ∨ i = 10 ∨ i = 11 ∨ i = 12 ∨
      i = 13 ∨ i = 14 ∨ i = 15 := by omega
  simp only [BitVec.getLsbD_and, BitVec.getLsbD_or]
  rcases this with rfl | rfl | rfl | rfl | rfl | rfl | rfl | rfl | rfl | rfl | rfl | rfl | rfl | rfl | rfl | rfl <;> simp

theorem setPort_inv (h : s.Inv) (p : BitVec 7) (v : Byte) : (s.setPort p v).Inv := { h with }

theorem oamCopy_inv (page : Byte) (n : Nat) : ∀ (i : Nat) (s : State), i + n ≤ 160 → s.Inv → (oamCopy page n i s).Inv := by
  induction n with
  | zero => intro i s _ h; exact h
  | succ n ih =>
    intro i s hi h
    exact ih (i + 1) _ (by omega) { h with oam := write_wf h.oam (by omega) _ }

theorem vramCopy_inv (src dst : Word) (n : Nat) : ∀ (i : Nat) (s : State), s.Inv → (vramCopy src dst n i s).Inv := by
  induction n with
  | zero => intro i s h; exact h
  | succ n ih =>
    intro i s h
    exact ih (i + 1) _ { h with vram := write_wf h.vram (vramIndex_lt (Nat.mod_lt _ (by decide))) _ }

theorem mbc1_low (r : BitVec 9) (n : Nat) (h : n < 32) (h0 : n ≠ 0) :
    ((r &&& 0x60) ||| BitVec.ofNat 9 n).toNat < 128 ∧ ((r &&& 0x60) ||| BitVec.ofNat 9 n).toNat % 32 ≠ 0 := by
  revert r h0
  have : ∀ n < 32, ∀ r : BitVec 9, n ≠ 0 → ((r &&& 0x60) ||| BitVec.ofNat 9 n).toNat < 128 ∧
      ((r &&& 0x60) ||| BitVec.ofNat 9 n).toNat % 32 ≠ 0 := by decide +kernel
  exact fun r h0 => this n h r h0

theorem mbc1_high (r : BitVec 9) (n : Nat) (h : n < 4) (hr : r.toNat < 128 ∧ r.toNat % 32 ≠ 0) :
    ((r &&& 0x1F) ||| BitVec.ofNat 9 (n * 32)).toNat < 128 ∧ ((r &&& 0x1F) ||| BitVec.ofNat 9 (n * 32)).toNat % 32 ≠ 0 := by
  have : ∀ n < 4, ∀ r : BitVec 9, (r.toNat < 128 ∧ r.toNat % 32 ≠ 0) → ((r &&& 0x1F) ||| BitVec.ofNat 9 (n * 32)).toNat < 128 ∧
      ((r &&& 0x1F) ||| BitVec.ofNat 9 (n * 32)).toNat % 32 ≠ 0 := by decide +kernel
  exact this n h r hr

theorem mbcWrite_inv (h : s.Inv) (a : Nat) (v : Byte) : (s.mbcWrite a v).Inv := by
  unfold State.mbcWrite
  split
  · exact h
  · next hk =>
    split
    · exact { h with }
    split
    · refine { h with mbc1Rom := fun _ => ?_ }
      dsimp only
      exact mbc1_low _ _ (by split <;> omega) (by split <;> omega)
    split
    · split
      · refine { h with mbc1Rom := fun _ => ?_ }
        exact mbc1_high _ _ (by omega) (h.mbc1Rom hk)
      · refine { h with mbc1Ram := fun _ => ?_ }
        have : v.toNat % 4 < 4 := Nat.mod_lt _ (by decide)
        simp only [BitVec.toNat_ofNat]
        omega
    · exact { h with }
  · next hk =>
    have hne : s.cart.kind ≠ .mbc1 := by rw [hk]; decide
    split
    · exact { h with }
    split
    · exact { h with mbc1Rom := fun e => absurd e hne }
    split
    · exact { h with mbc1Rom := fun e => absurd e hne }
    split
    · exact { h with mbc1Ram := fun e => absurd e hne }
    · exact h

theorem eramWrite_inv (h : s.Inv) (a : Nat) (v : Byte) : (s.eramWrite a v).Inv := by
  unfold State.eramWrite
  split
  · next ho =>
    have hr : s.cart.ramSize ≠ 0 := by
      intro h0
      simp [State.eramOpen, h0] at ho
    exact { h with eram := write_wf h.eram (eramIndex_lt hr) v }
  · exact h

theorem writeHdma5_inv (h : s.Inv) (v : Byte) : (s.writeHdma5 v).Inv := by
  unfold State.writeHdma5
  split
  · exact { setPort_inv h 0x55 (0x80 ||| s.hdmaBlocks.setWidth 8) with }
  · split
    · exact { setPort_inv h 0x55 (v &&& 0x7F) with hdmaDst := hdmaDest_block _ }
    · exact { setPort_inv (vramCopy_inv s.hdmaSource s.hdmaDest ((v.toNat % 128 + 1) * 16) 0 s h) 0x55 0xFF with
        hdmaDst := vramDest_block _ _ (hdmaDest_block _) (by omega) }

theorem writePort_inv (h : s.Inv) (p : BitVec 7) (v : Byte) : (s.writePort p v).Inv := by
  unfold State.writePort
  split
  · exact setPort_inv h _ _
  split
  · exact setPort_inv h _ _
  split
  · unfold State.writeIf; split <;> exact setPort_inv h _ _
  split
  · exact oamCopy_inv v 160 0 _ (by omega) (setPort_inv h _ _)
  split
  · exact { h with }
  split
  · refine { setPort_inv h 0x50 v with boot := fun hb => h.boot ?_ }
    exact (Bool.and_eq_true_iff.mp hb).1
  split
  · exact writeHdma5_inv h v
  split
  · exact { setPort_inv h 0x68 (paletteStep (s.port 0x68)) with bgPal := write_wf h.bgPal (Nat.mod_lt _ (by decide)) v }
  split
  · exact { setPort_inv h 0x6A (paletteStep (s.port 0x6A)) with objPal := write_wf h.objPal (Nat.mod_lt _ (by decide)) v }
  · exact setPort_inv h _ _

/-- Every bus write keeps the invariant. -/
theorem busWrite_inv (h : s.Inv) (a : Word) (v : Byte) : (s.busWrite a v).Inv := by
  unfold State.busWrite
  split <;> rename_i hr <;> have hb := resolve_bounds hr <;> simp only [regionRange] at hb
  · exact mbcWrite_inv h _ v
  · exact mbcWrite_inv h _ v
  · exact { h with vram := write_wf h.vram (vramIndex_lt (by omega)) v }
  · exact eramWrite_inv h _ v
  · exact { h with wram := write_wf h.wram (wramIndex_lt (by omega) (by omega)) v }
  · exact { h with wram := write_wf h.wram (wramIndex_lt (by omega) (by omega)) v }
  · exact { h with wram := write_wf h.wram (wramIndex_lt (by omega) (by omega)) v }
  · exact { h with oam := write_wf h.oam (by omega) v }
  · exact h
  · exact writePort_inv h _ v
  · exact { h with hram := write_wf h.hram (by omega) v }
  · exact { h with }

/-- Pushing keeps the invariant. -/
theorem push16_inv (h : s.Inv) (w : Word) : (s.push16 w).Inv := by
  have h1 : (s.setSp (s.sp - 1)).Inv := { h with }
  have h2 := busWrite_inv h1 (s.sp - 1) (hiByte w)
  have h3 : (((s.setSp (s.sp - 1)).busWrite (s.sp - 1) (hiByte w)).setSp (s.sp - 2)).Inv := { h2 with }
  rw [push16_eq]
  exact busWrite_inv h3 _ _

/-- Dispatch keeps the invariant. -/
theorem dispatch_inv (h : s.Inv) (i : Nat) : (s.dispatch i).Inv := by
  have h0 : ({ s with haltBug := false } : State).Inv := { h with bugRuns := fun e => by simp at e }
  have h1 : (dispatchPushed s).Inv := push16_inv h0 _
  rw [dispatch_eq]
  exact { h1 with
    oneStall := fun e => by simp at e
    bugRuns := fun e => by simp [dispatchPushed] at e
    eiRuns := fun e => by simp at e }

theorem interruptCheck_inv (h : s.Inv) : s.interruptCheck.Inv := by
  unfold State.interruptCheck
  split
  · exact { dispatch_inv h (lowestSource s.pending) with }
  · exact h

theorem tick_inv (h : s.Inv) (k : Nat) : (s.tick k).Inv := { h with }
theorem setPc_inv (h : s.Inv) (v : Word) : (s.setPc v).Inv := { h with }
theorem setHl_inv (h : s.Inv) (v : Word) : (s.setHl v).Inv := { h with }
theorem setSp_inv (h : s.Inv) (v : Word) : (s.setSp v).Inv := { h with }
theorem setIme_inv (h : s.Inv) (v : Bool) : (s.setIme v).Inv := { h with }

/-- Writing an operand of `r8` keeps the invariant. -/
theorem setR8_inv (h : s.Inv) (r : R8) (v : Byte) : (s.setR8 r v).Inv := by
  cases r
  case mHL => exact busWrite_inv h _ v
  case a => exact { h with fLow := by simpa [State.setR8] using h.fLow }
  all_goals exact { h with }

theorem setFlags_inv (h : s.Inv) (z n hf c : Bool) : (s.setFlags z n hf c).Inv :=
  { h with fLow := by rw [f_setFlags]; exact packFlags_low z n hf c }

theorem setR16_inv (h : s.Inv) (p : R16) (v : Word) : (s.setR16 p v).Inv := by
  cases p <;> exact { h with }

theorem setR16stk_inv (h : s.Inv) (p : R16Stk) (v : Word) : (s.setR16stk p v).Inv := by
  cases p
  case af => exact { h with fLow := by simp [State.setR16stk, State.setAf, State.f] }
  all_goals exact { h with }

/-- Every storage array of State.reset is in canonical form, the cartridge ROM among them. -/
theorem reset_mems_wf : State.reset.wram.wf 0x8000 = true ∧ State.reset.vram.wf 0x4000 = true ∧
    State.reset.oam.wf 160 = true ∧ State.reset.hram.wf 127 = true ∧ State.reset.bgPal.wf 64 = true ∧
    State.reset.objPal.wf 64 = true ∧ State.reset.eram.wf State.reset.cart.ramSize = true ∧
    State.reset.cart.rom.wf 0x8000 = true := ⟨rfl, rfl, rfl, rfl, rfl, rfl, rfl, rfl⟩

end Sys2Proof.Laws
end

