-- ==== Sys2Proof/Laws/Copy.lean ====
section
/-! SUPPORT. What the DMA copies leave in the destination array (20_memory.md R89, R91, R92). -/

namespace Sys2Proof.Laws

open Sys2Proof Sys2Proof.Machine

/-- A read outside VRAM does not depend on VRAM. -/
theorem busRead_vram (s : State) (m : Mem) {a : Word} (h : resolve a ≠ .vram) :
    ({ s with vram := m } : State).busRead a = s.busRead a := by
  unfold State.busRead
  cases hr : resolve a <;> first | exact absurd hr h | rfl

/-- A read outside OAM does not depend on OAM. -/
theorem busRead_oam (s : State) (m : Mem) {a : Word} (h : resolve a ≠ .oam) :
    ({ s with oam := m } : State).busRead a = s.busRead a := by
  unfold State.busRead
  cases hr : resolve a <;> first | exact absurd hr h | rfl

/-- A VRAM copy of one byte more is the copy and then that byte, read after the bytes before it (20 R91, R92). -/
theorem vramCopy_succ (src dst : Word) (n : Nat) : ∀ (i : Nat) (s : State),
    vramCopy src dst (n + 1) i s =
      { vramCopy src dst n i s with
        vram := (vramCopy src dst n i s).vram.write ((vramCopy src dst n i s).vramIndex ((dst.toNat + (i + n)) % 0x2000))
          ((vramCopy src dst n i s).busRead (src + BitVec.ofNat 16 (i + n))) } := by
  induction n with
  | zero => exact fun _ _ => rfl
  | succ n ih =>
    intro i s
    have h := ih (i + 1) { s with vram := s.vram.write (s.vramIndex ((dst.toNat + i) % 0x2000)) (s.busRead (src + BitVec.ofNat 16 i)) }
    rw [show i + 1 + n = i + (n + 1) by omega] at h
    exact h

/-- A VRAM copy from a source outside VRAM: the bytes copied, and every other byte of VRAM unchanged. -/
theorem vramCopy_read (src dst : Word) (n : Nat) :
    ∀ (i : Nat) (s : State), s.vram.wf 0x4000 = true → n ≤ 0x2000 →
      (∀ k, k < n → resolve (src + BitVec.ofNat 16 (i + k)) ≠ .vram) →
      (∀ k, k < n → (vramCopy src dst n i s).vram.read (s.vramIndex ((dst.toNat + (i + k)) % 0x2000)) =
        s.busRead (src + BitVec.ofNat 16 (i + k))) ∧
      (∀ j, (∀ k, k < n → j ≠ s.vramIndex ((dst.toNat + (i + k)) % 0x2000)) →
        (vramCopy src dst n i s).vram.read j = s.vram.read j) := by
  induction n with
  | zero => intro i s _ _ _; exact ⟨fun k hk => absurd hk (Nat.not_lt_zero k), fun j _ => rfl⟩
  | succ n ih =>
    intro i s hw hn hsrc
    obtain ⟨m, hm⟩ : ∃ m, m = s.vram.write (s.vramIndex ((dst.toNat + i) % 0x2000)) (s.busRead (src + BitVec.ofNat 16 i)) :=
      ⟨_, rfl⟩
    have hstep : vramCopy src dst (n + 1) i s = vramCopy src dst n (i + 1) { s with vram := m } := by rw [hm]; rfl
    have hi : ∀ o, State.vramIndex { s with vram := m } o = s.vramIndex o := fun _ => rfl
    obtain ⟨h1, h2⟩ := ih (i + 1) { s with vram := m }
      (by rw [hm]; exact write_wf hw (vramIndex_lt (Nat.mod_lt _ (by decide))) _) (by omega)
      (fun k hk => by rw [show i + 1 + k = i + (k + 1) by omega]; exact hsrc (k + 1) (by omega))
    rw [hstep]
    constructor
    · intro k hk
      rcases Nat.eq_zero_or_pos k with rfl | hpos
      · refine (h2 _ (fun k hk => ?_)).trans (by dsimp only; rw [hm]; exact read_write_wf hw _ _)
        rw [hi]
        simp only [State.vramIndex, Nat.add_zero]
        omega
      · have := h1 (k - 1) (by omega)
        rw [hi, show i + 1 + (k - 1) = i + k by omega, busRead_vram s m (hsrc k hk)] at this
        exact this
    · intro j hj
      refine (h2 j (fun k hk => ?_)).trans (by dsimp only; rw [hm]; exact read_write_ne _ (hj 0 (by omega)) _)
      rw [hi, show i + 1 + k = i + (k + 1) by omega]
      exact hj (k + 1) (by omega)

/-- OAM DMA's loop: each byte copied is what the source page reads as before the copy, OAM itself included. -/
theorem oamCopy_read (page : Byte) (n : Nat) :
    ∀ (i : Nat) (s : State), s.oam.wf 160 = true → i + n ≤ 160 →
      (∀ k, k < n → (oamCopy page n i s).oam.read (i + k) = s.busRead (BitVec.ofNat 16 (page.toNat * 256 + (i + k)))) ∧
      (∀ j, j < i ∨ i + n ≤ j → (oamCopy page n i s).oam.read j = s.oam.read j) := by
  induction n with
  | zero => intro i s _ _; exact ⟨fun k hk => absurd hk (Nat.not_lt_zero k), fun j _ => rfl⟩
  | succ n ih =>
    intro i s hw hn
    obtain ⟨h1, h2⟩ := ih (i + 1) { s with oam := s.oam.write i (s.busRead (BitVec.ofNat 16 (page.toNat * 256 + i))) }
      (write_wf hw (by omega) _) (by omega)
    constructor
    · intro k hk
      rcases Nat.eq_zero_or_pos k with rfl | hpos
      · exact (h2 _ (.inl (by omega))).trans (read_write_wf hw _ _)
      · have := h1 (k - 1) (by omega)
        rw [show i + 1 + (k - 1) = i + k by omega] at this
        refine this.trans ?_
        have hp := page.isLt
        have hbound : (BitVec.ofNat 16 (page.toNat * 256 + (i + k))).toNat = page.toNat * 256 + (i + k) := by
          simp only [BitVec.toNat_ofNat]; omega
        by_cases hr : resolve (BitVec.ofNat 16 (page.toNat * 256 + (i + k))) = .oam
        · have hb := resolve_bounds hr
          simp only [regionRange, hbound] at hb
          simp only [State.busRead, hr, hbound]
          exact read_write_ne _ (by omega) _
        · exact busRead_oam s _ hr
    · intro j hj
      exact (h2 j (by omega)).trans (read_write_ne _ (by omega) _)

end Sys2Proof.Laws
end

