-- ==== Sys2Proof/Laws/Decode.lean ====
section
/-! SUPPORT. Decoding by format: what `decode` gives from the table entry of the first byte (30_encoding.md R140, R144). -/

namespace Sys2Proof.Laws

open Sys2Proof

/-- Format `op8`. -/
theorem decode_op {b : Byte} {i : Instr} (h : baseEntry b = .op i) (rest : List Byte) :
    decode (b :: rest) = .ok (i, rest) := by
  simp [decode, decodeWindow, h]

/-- Formats with one byte after the opcode. -/
theorem decode_imm8 {b : Byte} {f : Byte → Instr} (h : baseEntry b = .imm8 f) (n : Byte) (rest : List Byte) :
    decode (b :: n :: rest) = .ok (f n, rest) := by
  simp [decode, decodeWindow, h]

/-- Format `op8_d16`: the low byte first. -/
theorem decode_imm16 {b : Byte} {f : Word → Instr} (h : baseEntry b = .imm16 f) (lo hi : Byte) (rest : List Byte) :
    decode (b :: lo :: hi :: rest) = .ok (f (joinBytes hi lo), rest) := by
  simp [decode, decodeWindow, h]

/-- The CB formats. -/
theorem decode_cb (sub : Byte) (rest : List Byte) : decode (0xCB :: sub :: rest) = .ok (cbInstr sub, rest) := by
  unfold decode decodeWindow
  dsimp only [List.getD]
  rw [show baseEntry 0xCB = .cb from rfl]
  simp

/-- What decodes, by the entry of its first byte. -/
theorem decode_cases {b : Byte} {bs rest : List Byte} {i : Instr} (h : decode (b :: bs) = .ok (i, rest)) :
    match baseEntry b with
    | .op j => i = j ∧ bs = rest
    | .imm8 f => ∃ n, i = f n ∧ bs = n :: rest
    | .imm16 f => ∃ lo hi, i = f (joinBytes hi lo) ∧ bs = lo :: hi :: rest
    | .cb => ∃ sub, i = cbInstr sub ∧ bs = sub :: rest := by
  generalize hb : baseEntry b = entry
  unfold decode decodeWindow at h
  simp only [hb] at h
  cases entry with
  | op j => simpa [eq_comm] using h
  | imm8 f =>
    cases bs with
    | nil => simp at h
    | cons n bs => exact ⟨n, by simpa [eq_comm] using h⟩
  | imm16 f =>
    match bs with
    | [] => simp at h
    | [_] => simp at h
    | lo :: hi :: bs =>
      rw [if_neg (by simp)] at h
      exact ⟨lo, hi, by simpa [eq_comm] using h⟩
  | cb =>
    cases bs with
    | nil => simp at h
    | cons n bs => exact ⟨n, by simpa [eq_comm] using h⟩

end Sys2Proof.Laws
end

