-- ==== Sys2Proof/Laws/Effects.lean ====
section
/-! SUPPORT. One lemma per shared operation over registers that says everything it does: the register written, the flags,
the cost, and that nothing else changes. -/

namespace Sys2Proof.Laws

open Sys2Proof Sys2Proof.Machine

variable (s : State)

/-! ### The two kinds of register writes, with flags and cost -/

/-- Writing an operand of `r8`, and a cost, is exactly that. -/
theorem writes_setR8 (r : R8) (v : Byte) (k : Nat) : WritesR8 s ((s.setR8 r v).tick k) r v := by
  refine ⟨?_, ?_, ?_, ?_, ?_⟩
  · rintro rfl; rfl
  · intro hr
    exact ⟨r8_setR8_same s hr v, by cases r <;> first | exact absurd rfl hr | rfl⟩
  · intro r' h h'
    by_cases hr : r = .mHL
    · subst hr
      cases r' <;> first | exact absurd rfl h' | simp [State.setR8, State.r8, State.a, State.b, State.c, State.d, State.e, State.h, State.l]
    · have := r8_setR8_ne s hr h' h v
      rw [← this]
      cases r' <;> first | exact absurd rfl h' | rfl
  · cases r <;> simp [State.setR8, State.setA, State.setB, State.setC, State.setD, State.setE, State.setH, State.setL]
  · cases r <;> simp [State.setR8, State.setA, State.setB, State.setC, State.setD, State.setE, State.setH, State.setL]

/-- Adding flags to a register write changes nothing else. -/
theorem writes_setFlags {s t : State} {r : R8} {v : Byte} (h : WritesR8 s t r v) (z n hf c : Bool) :
    WritesR8 s (t.setFlags z n hf c) r v := by
  have hr : ∀ q, q ≠ R8.mHL → (t.setFlags z n hf c).r8 q = t.r8 q := by
    intro q hq
    cases q <;> first | exact absurd rfl hq | (simp [State.r8]; try rfl)
  refine ⟨fun e => ?_, fun e => ⟨?_, ?_⟩, fun q h1 h2 => ?_, ?_, ?_⟩
  · rw [← h.1 e]; rfl
  · rw [hr r e]; exact (h.2.1 e).1
  · rw [← (h.2.1 e).2]; rfl
  · rw [hr q h2]; exact h.2.2.1 q h1 h2
  · exact h.2.2.2.1
  · exact h.2.2.2.2

/-- A cost changes nothing else. -/
theorem writes_tick {s t : State} {r : R8} {v : Byte} (h : WritesR8 s t r v) (k : Nat) : WritesR8 s (t.tick k) r v := by
  refine ⟨fun e => h.1 e, fun e => ⟨?_, (h.2.1 e).2⟩, fun q h1 h2 => ?_, h.2.2.2.1, h.2.2.2.2⟩
  · rw [← (h.2.1 e).1]; cases r <;> first | exact absurd rfl e | rfl
  · rw [← h.2.2.1 q h1 h2]; cases q <;> first | exact absurd rfl h2 | rfl

/-- Writing a register as it stands writes nothing. -/
theorem writes_none : WritesR8 s s .a s.a :=
  ⟨fun h => by simp at h, fun _ => ⟨rfl, rfl⟩, fun _ _ _ => rfl, rfl, rfl⟩

/-- No write of an operand of `r8` touches F. -/
theorem f_setR8_all (r : R8) (v : Byte) : (s.setR8 r v).f = s.f := by
  by_cases h : r = .mHL
  · subst h; simp [State.setR8, State.f]
  · exact f_setR8 s h v

/-- The flags after setting them. -/
theorem flagsAre_setFlags (z n h c : Bool) (k : Nat) : FlagsAre ((s.setFlags z n h c).tick k) z n h c := by
  have hf : ((s.setFlags z n h c).tick k).f = packFlags z n h c := f_setFlags s z n h c
  refine ⟨?_, ?_, ?_, ?_, ?_⟩
  · rw [State.flagZ, hf]; cases z <;> cases n <;> cases h <;> cases c <;> rfl
  · rw [State.flagN, hf]; cases z <;> cases n <;> cases h <;> cases c <;> rfl
  · rw [State.flagH, hf]; cases z <;> cases n <;> cases h <;> cases c <;> rfl
  · rw [State.flagC, hf]; cases z <;> cases n <;> cases h <;> cases c <;> rfl
  · rw [hf]; exact packFlags_low z n h c

/-- Writing a 16-bit register, and a cost, is exactly that. -/
theorem writes_setR16 (p : R16) (v : Word) (k : Nat) : WritesR16 s ((s.setR16 p v).tick k) p v := by
  refine ⟨by cases p <;> rfl, ?_, by cases p <;> rfl, by cases p <;> rfl, by cases p <;> rfl⟩
  intro q h
  cases p <;> cases q <;> first | exact absurd rfl h | rfl

/-- Adding flags to a 16-bit write changes nothing else. -/
theorem writes16_setFlags {s t : State} {p : R16} {v : Word} (h : WritesR16 s t p v) (z n hf c : Bool) :
    WritesR16 s (t.setFlags z n hf c) p v :=
  ⟨by rw [← h.1]; cases p <;> rfl, fun q hq => by rw [← h.2.1 q hq]; cases q <;> rfl, by rw [a_setFlags]; exact h.2.2.1,
    h.2.2.2.1, by rw [← h.2.2.2.2]; rfl⟩

/-! ### One lemma per operation -/

theorem ldReg_spec (dst src : R8) (k : Nat) :
    ∃ t, ldReg dst src k s = .next t ∧ WritesR8 s t dst (s.r8 src) ∧ t.f = s.f ∧ t.cycles = s.cycles + k :=
  ⟨_, rfl, writes_setR8 s dst _ k, f_setR8_all s dst _, by cases dst <;> simp [State.setR8, State.setA, State.setB, State.setC, State.setD, State.setE, State.setH, State.setL]⟩

theorem cycles_setR8 (r : R8) (v : Byte) : (s.setR8 r v).cycles = s.cycles := by
  cases r <;> simp [State.setR8, State.setA, State.setB, State.setC, State.setD, State.setE, State.setH, State.setL]

theorem ldImm_spec (dst : R8) (n : Byte) (k : Nat) :
    ∃ t, ldImm dst n k s = .next t ∧ WritesR8 s t dst n ∧ t.f = s.f ∧ t.cycles = s.cycles + k :=
  ⟨_, rfl, writes_setR8 s dst n k, f_setR8_all s dst n, by simp [cycles_setR8]⟩

/-- What `alu[y] A,b` does, in terms of the value and flags it computes (42 R251-R258). -/
theorem aluStep_spec (op : AluOp) (b : Byte) (k : Nat) :
    let r := op.compute s.a b s.flagC
    WritesR8 s ((s.aluStep op b).tick k) .a (if op.writesA then r.val else s.a) ∧
    FlagsAre ((s.aluStep op b).tick k) r.z r.n r.h r.c ∧ ((s.aluStep op b).tick k).cycles = s.cycles + k := by
  intro r
  have e : s.aluStep op b =
      (s.setA (if op.writesA then r.val else s.a)).setFlags r.z r.n r.h r.c := by
    cases op <;> simp [State.aluStep, AluOp.writesA, State.putFlags, r, State.setFlags, State.setF, State.setA, State.a]
  rw [e]
  refine ⟨writes_tick (writes_setFlags (writes_setR8 s .a _ 0) _ _ _ _) k, flagsAre_setFlags _ _ _ _ _ k, rfl⟩

theorem incR8_spec (r : R8) (k : Nat) :
    let o := incFlags (s.r8 r) s.flagC
    ∃ t, incR8 r k s = .next t ∧ WritesR8 s t r o.val ∧ FlagsAre t o.z o.n o.h o.c ∧ t.cycles = s.cycles + k :=
  ⟨_, rfl, writes_tick (writes_setFlags (writes_setR8 s r _ 0) _ _ _ _) k, flagsAre_setFlags _ _ _ _ _ k,
    by simp [State.putFlags, State.setFlags, State.setF, cycles_setR8]⟩

theorem decR8_spec (r : R8) (k : Nat) :
    let o := decFlags (s.r8 r) s.flagC
    ∃ t, decR8 r k s = .next t ∧ WritesR8 s t r o.val ∧ FlagsAre t o.z o.n o.h o.c ∧ t.cycles = s.cycles + k :=
  ⟨_, rfl, writes_tick (writes_setFlags (writes_setR8 s r _ 0) _ _ _ _) k, flagsAre_setFlags _ _ _ _ _ k,
    by simp [State.putFlags, State.setFlags, State.setF, cycles_setR8]⟩

theorem rotR8_spec (op : RotOp) (r : R8) (k : Nat) :
    let o := op.compute (s.r8 r) s.flagC
    ∃ t, rotR8 op r k s = .next t ∧ WritesR8 s t r o.val ∧ FlagsAre t o.z o.n o.h o.c ∧ t.cycles = s.cycles + k :=
  ⟨_, rfl, writes_tick (writes_setFlags (writes_setR8 s r _ 0) _ _ _ _) k, flagsAre_setFlags _ _ _ _ _ k,
    by simp [State.putFlags, State.setFlags, State.setF, cycles_setR8]⟩

theorem rotA_spec (op : RotOp) (k : Nat) :
    let o := op.compute s.a s.flagC
    ∃ t, rotA op k s = .next t ∧ WritesR8 s t .a o.val ∧ FlagsAre t false false false o.c ∧ t.cycles = s.cycles + k :=
  ⟨_, rfl, writes_tick (writes_setFlags (writes_setR8 s .a _ 0) _ _ _ _) k, flagsAre_setFlags _ _ _ _ _ k, rfl⟩

theorem bitTest_spec (b : Nat) (r : R8) (k : Nat) :
    ∃ t, bitTest b r k s = .next t ∧ WritesR8 s t .a s.a ∧ FlagsAre t (!(s.r8 r).getLsbD b) false true s.flagC ∧
      t.cycles = s.cycles + k :=
  ⟨_, rfl, writes_tick (writes_setFlags (writes_none s) _ _ _ _) k, flagsAre_setFlags _ _ _ _ _ k, rfl⟩

theorem bitReset_spec (b : Nat) (r : R8) (k : Nat) :
    ∃ t, bitReset b r k s = .next t ∧ WritesR8 s t r (s.r8 r &&& ~~~((1 : Byte) <<< b)) ∧ t.f = s.f ∧
      t.cycles = s.cycles + k :=
  ⟨_, rfl, writes_setR8 s r _ k, f_setR8_all s r _, by simp [cycles_setR8]⟩

theorem bitSet_spec (b : Nat) (r : R8) (k : Nat) :
    ∃ t, bitSet b r k s = .next t ∧ WritesR8 s t r (s.r8 r ||| ((1 : Byte) <<< b)) ∧ t.f = s.f ∧
      t.cycles = s.cycles + k :=
  ⟨_, rfl, writes_setR8 s r _ k, f_setR8_all s r _, by simp [cycles_setR8]⟩

theorem daaOp_spec (k : Nat) :
    let o := daaFlags s.a s.flagN s.flagH s.flagC
    ∃ t, daaOp k s = .next t ∧ WritesR8 s t .a o.val ∧ FlagsAre t o.z o.n o.h o.c ∧ t.cycles = s.cycles + k :=
  ⟨_, rfl, writes_tick (writes_setFlags (writes_setR8 s .a _ 0) _ _ _ _) k, flagsAre_setFlags _ _ _ _ _ k, rfl⟩

theorem cplOp_spec (k : Nat) :
    ∃ t, cplOp k s = .next t ∧ WritesR8 s t .a (~~~s.a) ∧ FlagsAre t s.flagZ true true s.flagC ∧ t.cycles = s.cycles + k :=
  ⟨_, rfl, writes_tick (writes_setFlags (writes_setR8 s .a _ 0) _ _ _ _) k, flagsAre_setFlags _ _ _ _ _ k, rfl⟩

theorem scfOp_spec (k : Nat) :
    ∃ t, scfOp k s = .next t ∧ WritesR8 s t .a s.a ∧ FlagsAre t s.flagZ false false true ∧ t.cycles = s.cycles + k :=
  ⟨_, rfl, writes_tick (writes_setFlags (writes_none s) _ _ _ _) k, flagsAre_setFlags _ _ _ _ _ k, rfl⟩

theorem ccfOp_spec (k : Nat) :
    ∃ t, ccfOp k s = .next t ∧ WritesR8 s t .a s.a ∧ FlagsAre t s.flagZ false false (!s.flagC) ∧ t.cycles = s.cycles + k :=
  ⟨_, rfl, writes_tick (writes_setFlags (writes_none s) _ _ _ _) k, flagsAre_setFlags _ _ _ _ _ k, rfl⟩

theorem ldImm16_spec (p : R16) (nn : Word) (k : Nat) :
    ∃ t, ldImm16 p nn k s = .next t ∧ WritesR16 s t p nn ∧ t.f = s.f ∧ t.cycles = s.cycles + k :=
  ⟨_, rfl, writes_setR16 s p nn k, by cases p <;> rfl, by cases p <;> rfl⟩

theorem ldSpHl_spec (k : Nat) :
    ∃ t, ldSpHl k s = .next t ∧ WritesR16 s t .sp s.hl ∧ t.f = s.f ∧ t.cycles = s.cycles + k :=
  ⟨_, rfl, writes_setR16 s .sp _ k, rfl, rfl⟩

theorem incR16_spec (p : R16) (k : Nat) :
    ∃ t, incR16 p k s = .next t ∧ WritesR16 s t p (s.r16 p + 1) ∧ t.f = s.f ∧ t.cycles = s.cycles + k :=
  ⟨_, rfl, writes_setR16 s p _ k, by cases p <;> rfl, by cases p <;> rfl⟩

theorem decR16_spec (p : R16) (k : Nat) :
    ∃ t, decR16 p k s = .next t ∧ WritesR16 s t p (s.r16 p - 1) ∧ t.f = s.f ∧ t.cycles = s.cycles + k :=
  ⟨_, rfl, writes_setR16 s p _ k, by cases p <;> rfl, by cases p <;> rfl⟩

theorem addHl_spec (p : R16) (k : Nat) :
    ∃ t, addHl p k s = .next t ∧ WritesR16 s t .hl (s.hl + s.r16 p) ∧
      FlagsAre t s.flagZ false (decide (s.hl.toNat % 0x1000 + (s.r16 p).toNat % 0x1000 > 0xFFF))
        (decide (s.hl.toNat + (s.r16 p).toNat > 0xFFFF)) ∧ t.cycles = s.cycles + k :=
  ⟨_, rfl, writes16_setFlags (writes_setR16 s .hl _ k) _ _ _ _, flagsAre_setFlags _ _ _ _ _ k, rfl⟩

theorem addSp_spec (e : Byte) (k : Nat) :
    ∃ t, addSp e k s = .next t ∧ WritesR16 s t .sp (s.sp + sext16 e) ∧
      FlagsAre t false false (decide (s.sp.toNat % 16 + lowNibble e > 0xF)) (decide (s.sp.toNat % 256 + e.toNat > 0xFF)) ∧
      t.cycles = s.cycles + k :=
  ⟨_, rfl, writes16_setFlags (writes_setR16 s .sp _ k) _ _ _ _, flagsAre_setFlags _ _ _ _ _ k, rfl⟩

theorem ldHlSp_spec (e : Byte) (k : Nat) :
    ∃ t, ldHlSp e k s = .next t ∧ WritesR16 s t .hl (s.sp + sext16 e) ∧
      FlagsAre t false false (decide (s.sp.toNat % 16 + lowNibble e > 0xF)) (decide (s.sp.toNat % 256 + e.toNat > 0xFF)) ∧
      t.cycles = s.cycles + k :=
  ⟨_, rfl, writes16_setFlags (writes_setR16 s .hl _ k) _ _ _ _, flagsAre_setFlags _ _ _ _ _ k, rfl⟩

/-- `Push16` is the two bytes of `Pushed` (20 R66). -/
theorem push16_pushed (w : Word) : s.push16 w = Pushed s w := push16_eq s w

end Sys2Proof.Laws
end

