-- ==== Sys2Proof/Laws/Frame.lean ====
section
/-! SUPPORT. What a write to plain storage changes: the byte of its own storage cell and nothing else (20_memory.md R62,
R71-R77, R81, R82, R111). -/

namespace Sys2Proof.Laws

open Sys2Proof Sys2Proof.Machine

variable (s : State)

/-- A plain write changes one storage array, and no port. -/
structure PlainKeeps (s t : State) : Prop where
  io : t.io = s.io
  bgPal : t.bgPal = s.bgPal
  objPal : t.objPal = s.objPal
  key1Armed : t.key1Armed = s.key1Armed
  bootMapped : t.bootMapped = s.bootMapped
  romBank : t.romBank = s.romBank
  ramBank : t.ramBank = s.ramBank
  ramEnable : t.ramEnable = s.ramEnable
  mbc1Mode : t.mbc1Mode = s.mbc1Mode

theorem plainKeeps_busWrite {a : Word} (h : plainRegion (resolve a) = true) (v : Byte) : PlainKeeps s (s.busWrite a v) := by
  unfold State.busWrite
  split <;> rename_i hr <;> rw [hr] at h
  case h_4 => unfold State.eramWrite; split <;> constructor <;> rfl
  all_goals first | (simp [plainRegion] at h; done) | (constructor <;> rfl)

/-- The cell of an address depends on the bank registers only. -/
theorem cellOf_busWrite {a : Word} (h : plainRegion (resolve a) = true) (v : Byte) (b : Word) :
    (s.busWrite a v).cellOf b = s.cellOf b := by
  have hk := plainKeeps_busWrite s h v
  unfold State.cellOf State.wramIndex State.wramBank State.eramIndex State.port
  rw [hk.io, hk.ramBank, busWrite_cart]

/-- Two reads agree when every array, port and bank register the read goes through agrees. -/
theorem busRead_congr {s t : State} (hk : Keeps s t) (hp : PlainKeeps s t) {b : Word}
    (h : match resolve b with
      | .vram => t.vram.read (s.vramIndex (b.toNat - 0x8000)) = s.vram.read (s.vramIndex (b.toNat - 0x8000))
      | .eram => s.eramOpen = true → t.eram.read (s.eramIndex b.toNat) = s.eram.read (s.eramIndex b.toNat)
      | .wram0 | .wramX => t.wram.read (s.wramIndex b.toNat) = s.wram.read (s.wramIndex b.toNat)
      | .echo => t.wram.read (s.wramIndex (b.toNat - 0x2000)) = s.wram.read (s.wramIndex (b.toNat - 0x2000))
      | .oam => t.oam.read (b.toNat - 0xFE00) = s.oam.read (b.toNat - 0xFE00)
      | .hram => t.hram.read (b.toNat - 0xFF80) = s.hram.read (b.toNat - 0xFF80)
      | .ie => t.ie = s.ie
      | .rom0 | .romX | .unusable | .io => True) : t.busRead b = s.busRead b := by
  unfold State.busRead
  cases hr : resolve b <;> rw [hr] at h <;> dsimp only at h ⊢
  case rom0 | romX =>
    unfold State.romRead State.romIndex
    rw [hk.bootRom, hk.cart, hp.bootMapped, hp.romBank]
  case vram =>
    rw [← h]
    unfold State.vramIndex State.vramBank State.port
    rw [hp.io]
  case eram =>
    have ho : t.eramOpen = s.eramOpen := by unfold State.eramOpen; rw [hk.cart, hp.ramEnable]
    have hi : t.eramIndex b.toNat = s.eramIndex b.toNat := by unfold State.eramIndex; rw [hk.cart, hp.ramBank]
    unfold State.eramRead
    rw [ho, hi]
    split
    · next e => rw [h e]
    · rfl
  case wram0 | wramX | echo =>
    rw [← h]
    unfold State.wramIndex State.wramBank State.port
    rw [hp.io]
  case oam | hram | ie => exact h
  case unusable =>
    unfold State.unusableRead State.port
    rw [hp.io, hk.params]
  case io =>
    unfold State.readPort State.readP1 State.readKey1 State.port
    rw [hp.io, hp.bgPal, hp.objPal, hp.key1Armed, hk.doubleSpeed, hk.joypIn]

/-- A read of a byte that is not the cell written gives what it gave before. -/
theorem busRead_busWrite_ne {a b : Word} (h : plainRegion (resolve a) = true) (hc : s.cellOf a ≠ s.cellOf b) (v : Byte) :
    (s.busWrite a v).busRead b = s.busRead b := by
  refine busRead_congr (busWrite_keeps s a v) (plainKeeps_busWrite s h v) ?_
  have ha := resolve_range a
  have hb := resolve_range b
  unfold State.cellOf at hc
  unfold State.busWrite State.eramWrite
  cases hra : resolve a <;> rw [hra] at h ha hc <;> simp only [plainRegion, Bool.false_eq_true] at h <;>
    cases hrb : resolve b <;> rw [hrb] at hb hc <;> simp only [regionRange] at ha hb <;>
    simp only [ne_eq, Prod.mk.injEq, true_and] at hc <;> dsimp only
  case vram.vram => exact read_write_ne _ (fun e => hc (by simp only [State.vramIndex] at e; omega)) _
  case eram.eram => intro ho; rw [if_pos ho]; exact read_write_ne _ (fun e => hc e.symm) _
  case wram0.wram0 | wram0.wramX | wram0.echo | wramX.wram0 | wramX.wramX | wramX.echo | echo.wram0 | echo.wramX | echo.echo =>
    exact read_write_ne _ (fun e => hc e.symm) _
  case oam.oam | hram.hram => exact read_write_ne _ (fun e => hc (by omega)) _
  case ie.ie => exact absurd (by omega) hc
  all_goals first
    | exact True.intro
    | (split <;> rfl)
    | (intro _; rfl)

end Sys2Proof.Laws
end

