-- ==== Sys2Proof/Laws/PerInstr.lean ====
section
/-! SUPPORT. The per-instruction family `Length`: an instruction's encoding has the length its format gives it, 1, 2 or 3
bytes, and its first byte is 0xCB exactly for the CB rows and the prefix row (30_encoding.md R140, R144, R153). -/

namespace Sys2Proof.Laws.Length

open Sys2Proof

/-- The encoding starts with some byte and has 1 to 3 bytes; one that starts with 0xCB has 2, or is the prefix row. -/
def Statement (i : Instr) : Prop :=
  ∃ b bs, encode i = b :: bs ∧ i.length = bs.length + 1 ∧ bs.length ≤ 2 ∧ (b = 0xCB → bs.length = 1 ∨ wellFormed i = false)

theorem nop : Statement .nop := ⟨_, _, rfl, rfl, by decide, by decide⟩
theorem ld_BC_n16 (nn : Word) : Statement (.ld_BC_n16 nn) := ⟨_, _, rfl, rfl, Nat.le_refl 2, fun h => absurd h (by decide)⟩
theorem ld_MemBC_A : Statement .ld_MemBC_A := ⟨_, _, rfl, rfl, by decide, by decide⟩
theorem inc_BC : Statement .inc_BC := ⟨_, _, rfl, rfl, by decide, by decide⟩
theorem inc_B : Statement .inc_B := ⟨_, _, rfl, rfl, by decide, by decide⟩
theorem dec_B : Statement .dec_B := ⟨_, _, rfl, rfl, by decide, by decide⟩
theorem ld_B_n8 (n : Byte) : Statement (.ld_B_n8 n) := ⟨_, _, rfl, rfl, Nat.le_succ 1, fun h => absurd h (by decide)⟩
theorem rlca : Statement .rlca := ⟨_, _, rfl, rfl, by decide, by decide⟩
theorem ld_MemA16_SP (nn : Word) : Statement (.ld_MemA16_SP nn) := ⟨_, _, rfl, rfl, Nat.le_refl 2, fun h => absurd h (by decide)⟩
theorem add_HL_BC : Statement .add_HL_BC := ⟨_, _, rfl, rfl, by decide, by decide⟩
theorem ld_A_MemBC : Statement .ld_A_MemBC := ⟨_, _, rfl, rfl, by decide, by decide⟩
theorem dec_BC : Statement .dec_BC := ⟨_, _, rfl, rfl, by decide, by decide⟩
theorem inc_C : Statement .inc_C := ⟨_, _, rfl, rfl, by decide, by decide⟩
theorem dec_C : Statement .dec_C := ⟨_, _, rfl, rfl, by decide, by decide⟩
theorem ld_C_n8 (n : Byte) : Statement (.ld_C_n8 n) := ⟨_, _, rfl, rfl, Nat.le_succ 1, fun h => absurd h (by decide)⟩
theorem rrca : Statement .rrca := ⟨_, _, rfl, rfl, by decide, by decide⟩
theorem stop (x : Byte) : Statement (.stop x) := ⟨_, _, rfl, rfl, Nat.le_succ 1, fun h => absurd h (by decide)⟩
theorem ld_DE_n16 (nn : Word) : Statement (.ld_DE_n16 nn) := ⟨_, _, rfl, rfl, Nat.le_refl 2, fun h => absurd h (by decide)⟩
theorem ld_MemDE_A : Statement .ld_MemDE_A := ⟨_, _, rfl, rfl, by decide, by decide⟩
theorem inc_DE : Statement .inc_DE := ⟨_, _, rfl, rfl, by decide, by decide⟩
theorem inc_D : Statement .inc_D := ⟨_, _, rfl, rfl, by decide, by decide⟩
theorem dec_D : Statement .dec_D := ⟨_, _, rfl, rfl, by decide, by decide⟩
theorem ld_D_n8 (n : Byte) : Statement (.ld_D_n8 n) := ⟨_, _, rfl, rfl, Nat.le_succ 1, fun h => absurd h (by decide)⟩
theorem rla : Statement .rla := ⟨_, _, rfl, rfl, by decide, by decide⟩
theorem jr_e8 (e : Byte) : Statement (.jr_e8 e) := ⟨_, _, rfl, rfl, Nat.le_succ 1, fun h => absurd h (by decide)⟩
theorem add_HL_DE : Statement .add_HL_DE := ⟨_, _, rfl, rfl, by decide, by decide⟩
theorem ld_A_MemDE : Statement .ld_A_MemDE := ⟨_, _, rfl, rfl, by decide, by decide⟩
theorem dec_DE : Statement .dec_DE := ⟨_, _, rfl, rfl, by decide, by decide⟩
theorem inc_E : Statement .inc_E := ⟨_, _, rfl, rfl, by decide, by decide⟩
theorem dec_E : Statement .dec_E := ⟨_, _, rfl, rfl, by decide, by decide⟩
theorem ld_E_n8 (n : Byte) : Statement (.ld_E_n8 n) := ⟨_, _, rfl, rfl, Nat.le_succ 1, fun h => absurd h (by decide)⟩
theorem rra : Statement .rra := ⟨_, _, rfl, rfl, by decide, by decide⟩
theorem jr_NZ_e8 (e : Byte) : Statement (.jr_NZ_e8 e) := ⟨_, _, rfl, rfl, Nat.le_succ 1, fun h => absurd h (by decide)⟩
theorem ld_HL_n16 (nn : Word) : Statement (.ld_HL_n16 nn) := ⟨_, _, rfl, rfl, Nat.le_refl 2, fun h => absurd h (by decide)⟩
theorem ld_MemHLInc_A : Statement .ld_MemHLInc_A := ⟨_, _, rfl, rfl, by decide, by decide⟩
theorem inc_HL : Statement .inc_HL := ⟨_, _, rfl, rfl, by decide, by decide⟩
theorem inc_H : Statement .inc_H := ⟨_, _, rfl, rfl, by decide, by decide⟩
theorem dec_H : Statement .dec_H := ⟨_, _, rfl, rfl, by decide, by decide⟩
theorem ld_H_n8 (n : Byte) : Statement (.ld_H_n8 n) := ⟨_, _, rfl, rfl, Nat.le_succ 1, fun h => absurd h (by decide)⟩
theorem daa : Statement .daa := ⟨_, _, rfl, rfl, by decide, by decide⟩
theorem jr_Z_e8 (e : Byte) : Statement (.jr_Z_e8 e) := ⟨_, _, rfl, rfl, Nat.le_succ 1, fun h => absurd h (by decide)⟩
theorem add_HL_HL : Statement .add_HL_HL := ⟨_, _, rfl, rfl, by decide, by decide⟩
theorem ld_A_MemHLInc : Statement .ld_A_MemHLInc := ⟨_, _, rfl, rfl, by decide, by decide⟩
theorem dec_HL : Statement .dec_HL := ⟨_, _, rfl, rfl, by decide, by decide⟩
theorem inc_L : Statement .inc_L := ⟨_, _, rfl, rfl, by decide, by decide⟩
theorem dec_L : Statement .dec_L := ⟨_, _, rfl, rfl, by decide, by decide⟩
theorem ld_L_n8 (n : Byte) : Statement (.ld_L_n8 n) := ⟨_, _, rfl, rfl, Nat.le_succ 1, fun h => absurd h (by decide)⟩
theorem cpl : Statement .cpl := ⟨_, _, rfl, rfl, by decide, by decide⟩
theorem jr_NC_e8 (e : Byte) : Statement (.jr_NC_e8 e) := ⟨_, _, rfl, rfl, Nat.le_succ 1, fun h => absurd h (by decide)⟩
theorem ld_SP_n16 (nn : Word) : Statement (.ld_SP_n16 nn) := ⟨_, _, rfl, rfl, Nat.le_refl 2, fun h => absurd h (by decide)⟩
theorem ld_MemHLDec_A : Statement .ld_MemHLDec_A := ⟨_, _, rfl, rfl, by decide, by decide⟩
theorem inc_SP : Statement .inc_SP := ⟨_, _, rfl, rfl, by decide, by decide⟩
theorem inc_MemHL : Statement .inc_MemHL := ⟨_, _, rfl, rfl, by decide, by decide⟩
theorem dec_MemHL : Statement .dec_MemHL := ⟨_, _, rfl, rfl, by decide, by decide⟩
theorem ld_MemHL_n8 (n : Byte) : Statement (.ld_MemHL_n8 n) := ⟨_, _, rfl, rfl, Nat.le_succ 1, fun h => absurd h (by decide)⟩
theorem scf : Statement .scf := ⟨_, _, rfl, rfl, by decide, by decide⟩
theorem jr_C_e8 (e : Byte) : Statement (.jr_C_e8 e) := ⟨_, _, rfl, rfl, Nat.le_succ 1, fun h => absurd h (by decide)⟩
theorem add_HL_SP : Statement .add_HL_SP := ⟨_, _, rfl, rfl, by decide, by decide⟩
theorem ld_A_MemHLDec : Statement .ld_A_MemHLDec := ⟨_, _, rfl, rfl, by decide, by decide⟩
theorem dec_SP : Statement .dec_SP := ⟨_, _, rfl, rfl, by decide, by decide⟩
theorem inc_A : Statement .inc_A := ⟨_, _, rfl, rfl, by decide, by decide⟩
theorem dec_A : Statement .dec_A := ⟨_, _, rfl, rfl, by decide, by decide⟩
theorem ld_A_n8 (n : Byte) : Statement (.ld_A_n8 n) := ⟨_, _, rfl, rfl, Nat.le_succ 1, fun h => absurd h (by decide)⟩
theorem ccf : Statement .ccf := ⟨_, _, rfl, rfl, by decide, by decide⟩
theorem ld_B_B : Statement .ld_B_B := ⟨_, _, rfl, rfl, by decide, by decide⟩
theorem ld_B_C : Statement .ld_B_C := ⟨_, _, rfl, rfl, by decide, by decide⟩
theorem ld_B_D : Statement .ld_B_D := ⟨_, _, rfl, rfl, by decide, by decide⟩
theorem ld_B_E : Statement .ld_B_E := ⟨_, _, rfl, rfl, by decide, by decide⟩
theorem ld_B_H : Statement .ld_B_H := ⟨_, _, rfl, rfl, by decide, by decide⟩
theorem ld_B_L : Statement .ld_B_L := ⟨_, _, rfl, rfl, by decide, by decide⟩
theorem ld_B_MemHL : Statement .ld_B_MemHL := ⟨_, _, rfl, rfl, by decide, by decide⟩
theorem ld_B_A : Statement .ld_B_A := ⟨_, _, rfl, rfl, by decide, by decide⟩
theorem ld_C_B : Statement .ld_C_B := ⟨_, _, rfl, rfl, by decide, by decide⟩
theorem ld_C_C : Statement .ld_C_C := ⟨_, _, rfl, rfl, by decide, by decide⟩
theorem ld_C_D : Statement .ld_C_D := ⟨_, _, rfl, rfl, by decide, by decide⟩
theorem ld_C_E : Statement .ld_C_E := ⟨_, _, rfl, rfl, by decide, by decide⟩
theorem ld_C_H : Statement .ld_C_H := ⟨_, _, rfl, rfl, by decide, by decide⟩
theorem ld_C_L : Statement .ld_C_L := ⟨_, _, rfl, rfl, by decide, by decide⟩
theorem ld_C_MemHL : Statement .ld_C_MemHL := ⟨_, _, rfl, rfl, by decide, by decide⟩
theorem ld_C_A : Statement .ld_C_A := ⟨_, _, rfl, rfl, by decide, by decide⟩
theorem ld_D_B : Statement .ld_D_B := ⟨_, _, rfl, rfl, by decide, by decide⟩
theorem ld_D_C : Statement .ld_D_C := ⟨_, _, rfl, rfl, by decide, by decide⟩
theorem ld_D_D : Statement .ld_D_D := ⟨_, _, rfl, rfl, by decide, by decide⟩
theorem ld_D_E : Statement .ld_D_E := ⟨_, _, rfl, rfl, by decide, by decide⟩
theorem ld_D_H : Statement .ld_D_H := ⟨_, _, rfl, rfl, by decide, by decide⟩
theorem ld_D_L : Statement .ld_D_L := ⟨_, _, rfl, rfl, by decide, by decide⟩
theorem ld_D_MemHL : Statement .ld_D_MemHL := ⟨_, _, rfl, rfl, by decide, by decide⟩
theorem ld_D_A : Statement .ld_D_A := ⟨_, _, rfl, rfl, by decide, by decide⟩
theorem ld_E_B : Statement .ld_E_B := ⟨_, _, rfl, rfl, by decide, by decide⟩
theorem ld_E_C : Statement .ld_E_C := ⟨_, _, rfl, rfl, by decide, by decide⟩
theorem ld_E_D : Statement .ld_E_D := ⟨_, _, rfl, rfl, by decide, by decide⟩
theorem ld_E_E : Statement .ld_E_E := ⟨_, _, rfl, rfl, by decide, by decide⟩
theorem ld_E_H : Statement .ld_E_H := ⟨_, _, rfl, rfl, by decide, by decide⟩
theorem ld_E_L : Statement .ld_E_L := ⟨_, _, rfl, rfl, by decide, by decide⟩
theorem ld_E_MemHL : Statement .ld_E_MemHL := ⟨_, _, rfl, rfl, by decide, by decide⟩
theorem ld_E_A : Statement .ld_E_A := ⟨_, _, rfl, rfl, by decide, by decide⟩
theorem ld_H_B : Statement .ld_H_B := ⟨_, _, rfl, rfl, by decide, by decide⟩
theorem ld_H_C : Statement .ld_H_C := ⟨_, _, rfl, rfl, by decide, by decide⟩
theorem ld_H_D : Statement .ld_H_D := ⟨_, _, rfl, rfl, by decide, by decide⟩
theorem ld_H_E : Statement .ld_H_E := ⟨_, _, rfl, rfl, by decide, by decide⟩
theorem ld_H_H : Statement .ld_H_H := ⟨_, _, rfl, rfl, by decide, by decide⟩
theorem ld_H_L : Statement .ld_H_L := ⟨_, _, rfl, rfl, by decide, by decide⟩
theorem ld_H_MemHL : Statement .ld_H_MemHL := ⟨_, _, rfl, rfl, by decide, by decide⟩
theorem ld_H_A : Statement .ld_H_A := ⟨_, _, rfl, rfl, by decide, by decide⟩
theorem ld_L_B : Statement .ld_L_B := ⟨_, _, rfl, rfl, by decide, by decide⟩
theorem ld_L_C : Statement .ld_L_C := ⟨_, _, rfl, rfl, by decide, by decide⟩
theorem ld_L_D : Statement .ld_L_D := ⟨_, _, rfl, rfl, by decide, by decide⟩
theorem ld_L_E : Statement .ld_L_E := ⟨_, _, rfl, rfl, by decide, by decide⟩
theorem ld_L_H : Statement .ld_L_H := ⟨_, _, rfl, rfl, by decide, by decide⟩
theorem ld_L_L : Statement .ld_L_L := ⟨_, _, rfl, rfl, by decide, by decide⟩
theorem ld_L_MemHL : Statement .ld_L_MemHL := ⟨_, _, rfl, rfl, by decide, by decide⟩
theorem ld_L_A : Statement .ld_L_A := ⟨_, _, rfl, rfl, by decide, by decide⟩
theorem ld_MemHL_B : Statement .ld_MemHL_B := ⟨_, _, rfl, rfl, by decide, by decide⟩
theorem ld_MemHL_C : Statement .ld_MemHL_C := ⟨_, _, rfl, rfl, by decide, by decide⟩
theorem ld_MemHL_D : Statement .ld_MemHL_D := ⟨_, _, rfl, rfl, by decide, by decide⟩
theorem ld_MemHL_E : Statement .ld_MemHL_E := ⟨_, _, rfl, rfl, by decide, by decide⟩
theorem ld_MemHL_H : Statement .ld_MemHL_H := ⟨_, _, rfl, rfl, by decide, by decide⟩
theorem ld_MemHL_L : Statement .ld_MemHL_L := ⟨_, _, rfl, rfl, by decide, by decide⟩
theorem halt : Statement .halt := ⟨_, _, rfl, rfl, by decide, by decide⟩
theorem ld_MemHL_A : Statement .ld_MemHL_A := ⟨_, _, rfl, rfl, by decide, by decide⟩
theorem ld_A_B : Statement .ld_A_B := ⟨_, _, rfl, rfl, by decide, by decide⟩
theorem ld_A_C : Statement .ld_A_C := ⟨_, _, rfl, rfl, by decide, by decide⟩
theorem ld_A_D : Statement .ld_A_D := ⟨_, _, rfl, rfl, by decide, by decide⟩
theorem ld_A_E : Statement .ld_A_E := ⟨_, _, rfl, rfl, by decide, by decide⟩
theorem ld_A_H : Statement .ld_A_H := ⟨_, _, rfl, rfl, by decide, by decide⟩
theorem ld_A_L : Statement .ld_A_L := ⟨_, _, rfl, rfl, by decide, by decide⟩
theorem ld_A_MemHL : Statement .ld_A_MemHL := ⟨_, _, rfl, rfl, by decide, by decide⟩
theorem ld_A_A : Statement .ld_A_A := ⟨_, _, rfl, rfl, by decide, by decide⟩
theorem add_A_B : Statement .add_A_B := ⟨_, _, rfl, rfl, by decide, by decide⟩
theorem add_A_C : Statement .add_A_C := ⟨_, _, rfl, rfl, by decide, by decide⟩
theorem add_A_D : Statement .add_A_D := ⟨_, _, rfl, rfl, by decide, by decide⟩
theorem add_A_E : Statement .add_A_E := ⟨_, _, rfl, rfl, by decide, by decide⟩
theorem add_A_H : Statement .add_A_H := ⟨_, _, rfl, rfl, by decide, by decide⟩
theorem add_A_L : Statement .add_A_L := ⟨_, _, rfl, rfl, by decide, by decide⟩
theorem add_A_MemHL : Statement .add_A_MemHL := ⟨_, _, rfl, rfl, by decide, by decide⟩
theorem add_A_A : Statement .add_A_A := ⟨_, _, rfl, rfl, by decide, by decide⟩
theorem adc_A_B : Statement .adc_A_B := ⟨_, _, rfl, rfl, by decide, by decide⟩
theorem adc_A_C : Statement .adc_A_C := ⟨_, _, rfl, rfl, by decide, by decide⟩
theorem adc_A_D : Statement .adc_A_D := ⟨_, _, rfl, rfl, by decide, by decide⟩
theorem adc_A_E : Statement .adc_A_E := ⟨_, _, rfl, rfl, by decide, by decide⟩
theorem adc_A_H : Statement .adc_A_H := ⟨_, _, rfl, rfl, by decide, by decide⟩
theorem adc_A_L : Statement .adc_A_L := ⟨_, _, rfl, rfl, by decide, by decide⟩
theorem adc_A_MemHL : Statement .adc_A_MemHL := ⟨_, _, rfl, rfl, by decide, by decide⟩
theorem adc_A_A : Statement .adc_A_A := ⟨_, _, rfl, rfl, by decide, by decide⟩
theorem sub_A_B : Statement .sub_A_B := ⟨_, _, rfl, rfl, by decide, by decide⟩
theorem sub_A_C : Statement .sub_A_C := ⟨_, _, rfl, rfl, by decide, by decide⟩
theorem sub_A_D : Statement .sub_A_D := ⟨_, _, rfl, rfl, by decide, by decide⟩
theorem sub_A_E : Statement .sub_A_E := ⟨_, _, rfl, rfl, by decide, by decide⟩
theorem sub_A_H : Statement .sub_A_H := ⟨_, _, rfl, rfl, by decide, by decide⟩
theorem sub_A_L : Statement .sub_A_L := ⟨_, _, rfl, rfl, by decide, by decide⟩
theorem sub_A_MemHL : Statement .sub_A_MemHL := ⟨_, _, rfl, rfl, by decide, by decide⟩
theorem sub_A_A : Statement .sub_A_A := ⟨_, _, rfl, rfl, by decide, by decide⟩
theorem sbc_A_B : Statement .sbc_A_B := ⟨_, _, rfl, rfl, by decide, by decide⟩
theorem sbc_A_C : Statement .sbc_A_C := ⟨_, _, rfl, rfl, by decide, by decide⟩
theorem sbc_A_D : Statement .sbc_A_D := ⟨_, _, rfl, rfl, by decide, by decide⟩
theorem sbc_A_E : Statement .sbc_A_E := ⟨_, _, rfl, rfl, by decide, by decide⟩
theorem sbc_A_H : Statement .sbc_A_H := ⟨_, _, rfl, rfl, by decide, by decide⟩
theorem sbc_A_L : Statement .sbc_A_L := ⟨_, _, rfl, rfl, by decide, by decide⟩
theorem sbc_A_MemHL : Statement .sbc_A_MemHL := ⟨_, _, rfl, rfl, by decide, by decide⟩
theorem sbc_A_A : Statement .sbc_A_A := ⟨_, _, rfl, rfl, by decide, by decide⟩
theorem and_A_B : Statement .and_A_B := ⟨_, _, rfl, rfl, by decide, by decide⟩
theorem and_A_C : Statement .and_A_C := ⟨_, _, rfl, rfl, by decide, by decide⟩
theorem and_A_D : Statement .and_A_D := ⟨_, _, rfl, rfl, by decide, by decide⟩
theorem and_A_E : Statement .and_A_E := ⟨_, _, rfl, rfl, by decide, by decide⟩
theorem and_A_H : Statement .and_A_H := ⟨_, _, rfl, rfl, by decide, by decide⟩
theorem and_A_L : Statement .and_A_L := ⟨_, _, rfl, rfl, by decide, by decide⟩
theorem and_A_MemHL : Statement .and_A_MemHL := ⟨_, _, rfl, rfl, by decide, by decide⟩
theorem and_A_A : Statement .and_A_A := ⟨_, _, rfl, rfl, by decide, by decide⟩
theorem xor_A_B : Statement .xor_A_B := ⟨_, _, rfl, rfl, by decide, by decide⟩
theorem xor_A_C : Statement .xor_A_C := ⟨_, _, rfl, rfl, by decide, by decide⟩
theorem xor_A_D : Statement .xor_A_D := ⟨_, _, rfl, rfl, by decide, by decide⟩
theorem xor_A_E : Statement .xor_A_E := ⟨_, _, rfl, rfl, by decide, by decide⟩
theorem xor_A_H : Statement .xor_A_H := ⟨_, _, rfl, rfl, by decide, by decide⟩
theorem xor_A_L : Statement .xor_A_L := ⟨_, _, rfl, rfl, by decide, by decide⟩
theorem xor_A_MemHL : Statement .xor_A_MemHL := ⟨_, _, rfl, rfl, by decide, by decide⟩
theorem xor_A_A : Statement .xor_A_A := ⟨_, _, rfl, rfl, by decide, by decide⟩
theorem or_A_B : Statement .or_A_B := ⟨_, _, rfl, rfl, by decide, by decide⟩
theorem or_A_C : Statement .or_A_C := ⟨_, _, rfl, rfl, by decide, by decide⟩
theorem or_A_D : Statement .or_A_D := ⟨_, _, rfl, rfl, by decide, by decide⟩
theorem or_A_E : Statement .or_A_E := ⟨_, _, rfl, rfl, by decide, by decide⟩
theorem or_A_H : Statement .or_A_H := ⟨_, _, rfl, rfl, by decide, by decide⟩
theorem or_A_L : Statement .or_A_L := ⟨_, _, rfl, rfl, by decide, by decide⟩
theorem or_A_MemHL : Statement .or_A_MemHL := ⟨_, _, rfl, rfl, by decide, by decide⟩
theorem or_A_A : Statement .or_A_A := ⟨_, _, rfl, rfl, by decide, by decide⟩
theorem cp_A_B : Statement .cp_A_B := ⟨_, _, rfl, rfl, by decide, by decide⟩
theorem cp_A_C : Statement .cp_A_C := ⟨_, _, rfl, rfl, by decide, by decide⟩
theorem cp_A_D : Statement .cp_A_D := ⟨_, _, rfl, rfl, by decide, by decide⟩
theorem cp_A_E : Statement .cp_A_E := ⟨_, _, rfl, rfl, by decide, by decide⟩
theorem cp_A_H : Statement .cp_A_H := ⟨_, _, rfl, rfl, by decide, by decide⟩
theorem cp_A_L : Statement .cp_A_L := ⟨_, _, rfl, rfl, by decide, by decide⟩
theorem cp_A_MemHL : Statement .cp_A_MemHL := ⟨_, _, rfl, rfl, by decide, by decide⟩
theorem cp_A_A : Statement .cp_A_A := ⟨_, _, rfl, rfl, by decide, by decide⟩
theorem ret_NZ : Statement .ret_NZ := ⟨_, _, rfl, rfl, by decide, by decide⟩
theorem pop_BC : Statement .pop_BC := ⟨_, _, rfl, rfl, by decide, by decide⟩
theorem jp_NZ_a16 (nn : Word) : Statement (.jp_NZ_a16 nn) := ⟨_, _, rfl, rfl, Nat.le_refl 2, fun h => absurd h (by decide)⟩
theorem jp_a16 (nn : Word) : Statement (.jp_a16 nn) := ⟨_, _, rfl, rfl, Nat.le_refl 2, fun h => absurd h (by decide)⟩
theorem call_NZ_a16 (nn : Word) : Statement (.call_NZ_a16 nn) := ⟨_, _, rfl, rfl, Nat.le_refl 2, fun h => absurd h (by decide)⟩
theorem push_BC : Statement .push_BC := ⟨_, _, rfl, rfl, by decide, by decide⟩
theorem add_A_n8 (n : Byte) : Statement (.add_A_n8 n) := ⟨_, _, rfl, rfl, Nat.le_succ 1, fun h => absurd h (by decide)⟩
theorem rst_00 : Statement .rst_00 := ⟨_, _, rfl, rfl, by decide, by decide⟩
theorem ret_Z : Statement .ret_Z := ⟨_, _, rfl, rfl, by decide, by decide⟩
theorem ret : Statement .ret := ⟨_, _, rfl, rfl, by decide, by decide⟩
theorem jp_Z_a16 (nn : Word) : Statement (.jp_Z_a16 nn) := ⟨_, _, rfl, rfl, Nat.le_refl 2, fun h => absurd h (by decide)⟩
theorem cbPrefix : Statement .cbPrefix := ⟨_, _, rfl, rfl, by decide, fun _ => .inr rfl⟩
theorem call_Z_a16 (nn : Word) : Statement (.call_Z_a16 nn) := ⟨_, _, rfl, rfl, Nat.le_refl 2, fun h => absurd h (by decide)⟩
theorem call_a16 (nn : Word) : Statement (.call_a16 nn) := ⟨_, _, rfl, rfl, Nat.le_refl 2, fun h => absurd h (by decide)⟩
theorem adc_A_n8 (n : Byte) : Statement (.adc_A_n8 n) := ⟨_, _, rfl, rfl, Nat.le_succ 1, fun h => absurd h (by decide)⟩
theorem rst_08 : Statement .rst_08 := ⟨_, _, rfl, rfl, by decide, by decide⟩
theorem ret_NC : Statement .ret_NC := ⟨_, _, rfl, rfl, by decide, by decide⟩
theorem pop_DE : Statement .pop_DE := ⟨_, _, rfl, rfl, by decide, by decide⟩
theorem jp_NC_a16 (nn : Word) : Statement (.jp_NC_a16 nn) := ⟨_, _, rfl, rfl, Nat.le_refl 2, fun h => absurd h (by decide)⟩
theorem unused_D3 : Statement .unused_D3 := ⟨_, _, rfl, rfl, by decide, by decide⟩
theorem call_NC_a16 (nn : Word) : Statement (.call_NC_a16 nn) := ⟨_, _, rfl, rfl, Nat.le_refl 2, fun h => absurd h (by decide)⟩
theorem push_DE : Statement .push_DE := ⟨_, _, rfl, rfl, by decide, by decide⟩
theorem sub_A_n8 (n : Byte) : Statement (.sub_A_n8 n) := ⟨_, _, rfl, rfl, Nat.le_succ 1, fun h => absurd h (by decide)⟩
theorem rst_10 : Statement .rst_10 := ⟨_, _, rfl, rfl, by decide, by decide⟩
theorem ret_C : Statement .ret_C := ⟨_, _, rfl, rfl, by decide, by decide⟩
theorem reti : Statement .reti := ⟨_, _, rfl, rfl, by decide, by decide⟩
theorem jp_C_a16 (nn : Word) : Statement (.jp_C_a16 nn) := ⟨_, _, rfl, rfl, Nat.le_refl 2, fun h => absurd h (by decide)⟩
theorem unused_DB : Statement .unused_DB := ⟨_, _, rfl, rfl, by decide, by decide⟩
theorem call_C_a16 (nn : Word) : Statement (.call_C_a16 nn) := ⟨_, _, rfl, rfl, Nat.le_refl 2, fun h => absurd h (by decide)⟩
theorem unused_DD : Statement .unused_DD := ⟨_, _, rfl, rfl, by decide, by decide⟩
theorem sbc_A_n8 (n : Byte) : Statement (.sbc_A_n8 n) := ⟨_, _, rfl, rfl, Nat.le_succ 1, fun h => absurd h (by decide)⟩
theorem rst_18 : Statement .rst_18 := ⟨_, _, rfl, rfl, by decide, by decide⟩
theorem ldh_MemA8_A (a : Byte) : Statement (.ldh_MemA8_A a) := ⟨_, _, rfl, rfl, Nat.le_succ 1, fun h => absurd h (by decide)⟩
theorem pop_HL : Statement .pop_HL := ⟨_, _, rfl, rfl, by decide, by decide⟩
theorem ld_MemC_A : Statement .ld_MemC_A := ⟨_, _, rfl, rfl, by decide, by decide⟩
theorem unused_E3 : Statement .unused_E3 := ⟨_, _, rfl, rfl, by decide, by decide⟩
theorem unused_E4 : Statement .unused_E4 := ⟨_, _, rfl, rfl, by decide, by decide⟩
theorem push_HL : Statement .push_HL := ⟨_, _, rfl, rfl, by decide, by decide⟩
theorem and_A_n8 (n : Byte) : Statement (.and_A_n8 n) := ⟨_, _, rfl, rfl, Nat.le_succ 1, fun h => absurd h (by decide)⟩
theorem rst_20 : Statement .rst_20 := ⟨_, _, rfl, rfl, by decide, by decide⟩
theorem add_SP_e8 (e : Byte) : Statement (.add_SP_e8 e) := ⟨_, _, rfl, rfl, Nat.le_succ 1, fun h => absurd h (by decide)⟩
theorem jp_HL : Statement .jp_HL := ⟨_, _, rfl, rfl, by decide, by decide⟩
theorem ld_MemA16_A (nn : Word) : Statement (.ld_MemA16_A nn) := ⟨_, _, rfl, rfl, Nat.le_refl 2, fun h => absurd h (by decide)⟩
theorem unused_EB : Statement .unused_EB := ⟨_, _, rfl, rfl, by decide, by decide⟩
theorem unused_EC : Statement .unused_EC := ⟨_, _, rfl, rfl, by decide, by decide⟩
theorem unused_ED : Statement .unused_ED := ⟨_, _, rfl, rfl, by decide, by decide⟩
theorem xor_A_n8 (n : Byte) : Statement (.xor_A_n8 n) := ⟨_, _, rfl, rfl, Nat.le_succ 1, fun h => absurd h (by decide)⟩
theorem rst_28 : Statement .rst_28 := ⟨_, _, rfl, rfl, by decide, by decide⟩
theorem ldh_A_MemA8 (a : Byte) : Statement (.ldh_A_MemA8 a) := ⟨_, _, rfl, rfl, Nat.le_succ 1, fun h => absurd h (by decide)⟩
theorem pop_AF : Statement .pop_AF := ⟨_, _, rfl, rfl, by decide, by decide⟩
theorem ld_A_MemC : Statement .ld_A_MemC := ⟨_, _, rfl, rfl, by decide, by decide⟩
theorem di : Statement .di := ⟨_, _, rfl, rfl, by decide, by decide⟩
theorem unused_F4 : Statement .unused_F4 := ⟨_, _, rfl, rfl, by decide, by decide⟩
theorem push_AF : Statement .push_AF := ⟨_, _, rfl, rfl, by decide, by decide⟩
theorem or_A_n8 (n : Byte) : Statement (.or_A_n8 n) := ⟨_, _, rfl, rfl, Nat.le_succ 1, fun h => absurd h (by decide)⟩
theorem rst_30 : Statement .rst_30 := ⟨_, _, rfl, rfl, by decide, by decide⟩
theorem ld_HL_SPe8 (e : Byte) : Statement (.ld_HL_SPe8 e) := ⟨_, _, rfl, rfl, Nat.le_succ 1, fun h => absurd h (by decide)⟩
theorem ld_SP_HL : Statement .ld_SP_HL := ⟨_, _, rfl, rfl, by decide, by decide⟩
theorem ld_A_MemA16 (nn : Word) : Statement (.ld_A_MemA16 nn) := ⟨_, _, rfl, rfl, Nat.le_refl 2, fun h => absurd h (by decide)⟩
theorem ei : Statement .ei := ⟨_, _, rfl, rfl, by decide, by decide⟩
theorem unused_FC : Statement .unused_FC := ⟨_, _, rfl, rfl, by decide, by decide⟩
theorem unused_FD : Statement .unused_FD := ⟨_, _, rfl, rfl, by decide, by decide⟩
theorem cp_A_n8 (n : Byte) : Statement (.cp_A_n8 n) := ⟨_, _, rfl, rfl, Nat.le_succ 1, fun h => absurd h (by decide)⟩
theorem rst_38 : Statement .rst_38 := ⟨_, _, rfl, rfl, by decide, by decide⟩
theorem rlc_B : Statement .rlc_B := ⟨_, _, rfl, rfl, by decide, fun _ => .inl rfl⟩
theorem rlc_C : Statement .rlc_C := ⟨_, _, rfl, rfl, by decide, fun _ => .inl rfl⟩
theorem rlc_D : Statement .rlc_D := ⟨_, _, rfl, rfl, by decide, fun _ => .inl rfl⟩
theorem rlc_E : Statement .rlc_E := ⟨_, _, rfl, rfl, by decide, fun _ => .inl rfl⟩
theorem rlc_H : Statement .rlc_H := ⟨_, _, rfl, rfl, by decide, fun _ => .inl rfl⟩
theorem rlc_L : Statement .rlc_L := ⟨_, _, rfl, rfl, by decide, fun _ => .inl rfl⟩
theorem rlc_MemHL : Statement .rlc_MemHL := ⟨_, _, rfl, rfl, by decide, fun _ => .inl rfl⟩
theorem rlc_A : Statement .rlc_A := ⟨_, _, rfl, rfl, by decide, fun _ => .inl rfl⟩
theorem rrc_B : Statement .rrc_B := ⟨_, _, rfl, rfl, by decide, fun _ => .inl rfl⟩
theorem rrc_C : Statement .rrc_C := ⟨_, _, rfl, rfl, by decide, fun _ => .inl rfl⟩
theorem rrc_D : Statement .rrc_D := ⟨_, _, rfl, rfl, by decide, fun _ => .inl rfl⟩
theorem rrc_E : Statement .rrc_E := ⟨_, _, rfl, rfl, by decide, fun _ => .inl rfl⟩
theorem rrc_H : Statement .rrc_H := ⟨_, _, rfl, rfl, by decide, fun _ => .inl rfl⟩
theorem rrc_L : Statement .rrc_L := ⟨_, _, rfl, rfl, by decide, fun _ => .inl rfl⟩
theorem rrc_MemHL : Statement .rrc_MemHL := ⟨_, _, rfl, rfl, by decide, fun _ => .inl rfl⟩
theorem rrc_A : Statement .rrc_A := ⟨_, _, rfl, rfl, by decide, fun _ => .inl rfl⟩
theorem rl_B : Statement .rl_B := ⟨_, _, rfl, rfl, by decide, fun _ => .inl rfl⟩
theorem rl_C : Statement .rl_C := ⟨_, _, rfl, rfl, by decide, fun _ => .inl rfl⟩
theorem rl_D : Statement .rl_D := ⟨_, _, rfl, rfl, by decide, fun _ => .inl rfl⟩
theorem rl_E : Statement .rl_E := ⟨_, _, rfl, rfl, by decide, fun _ => .inl rfl⟩
theorem rl_H : Statement .rl_H := ⟨_, _, rfl, rfl, by decide, fun _ => .inl rfl⟩
theorem rl_L : Statement .rl_L := ⟨_, _, rfl, rfl, by decide, fun _ => .inl rfl⟩
theorem rl_MemHL : Statement .rl_MemHL := ⟨_, _, rfl, rfl, by decide, fun _ => .inl rfl⟩
theorem rl_A : Statement .rl_A := ⟨_, _, rfl, rfl, by decide, fun _ => .inl rfl⟩
theorem rr_B : Statement .rr_B := ⟨_, _, rfl, rfl, by decide, fun _ => .inl rfl⟩
theorem rr_C : Statement .rr_C := ⟨_, _, rfl, rfl, by decide, fun _ => .inl rfl⟩
theorem rr_D : Statement .rr_D := ⟨_, _, rfl, rfl, by decide, fun _ => .inl rfl⟩
theorem rr_E : Statement .rr_E := ⟨_, _, rfl, rfl, by decide, fun _ => .inl rfl⟩
theorem rr_H : Statement .rr_H := ⟨_, _, rfl, rfl, by decide, fun _ => .inl rfl⟩
theorem rr_L : Statement .rr_L := ⟨_, _, rfl, rfl, by decide, fun _ => .inl rfl⟩
theorem rr_MemHL : Statement .rr_MemHL := ⟨_, _, rfl, rfl, by decide, fun _ => .inl rfl⟩
theorem rr_A : Statement .rr_A := ⟨_, _, rfl, rfl, by decide, fun _ => .inl rfl⟩
theorem sla_B : Statement .sla_B := ⟨_, _, rfl, rfl, by decide, fun _ => .inl rfl⟩
theorem sla_C : Statement .sla_C := ⟨_, _, rfl, rfl, by decide, fun _ => .inl rfl⟩
theorem sla_D : Statement .sla_D := ⟨_, _, rfl, rfl, by decide, fun _ => .inl rfl⟩
theorem sla_E : Statement .sla_E := ⟨_, _, rfl, rfl, by decide, fun _ => .inl rfl⟩
theorem sla_H : Statement .sla_H := ⟨_, _, rfl, rfl, by decide, fun _ => .inl rfl⟩
theorem sla_L : Statement .sla_L := ⟨_, _, rfl, rfl, by decide, fun _ => .inl rfl⟩
theorem sla_MemHL : Statement .sla_MemHL := ⟨_, _, rfl, rfl, by decide, fun _ => .inl rfl⟩
theorem sla_A : Statement .sla_A := ⟨_, _, rfl, rfl, by decide, fun _ => .inl rfl⟩
theorem sra_B : Statement .sra_B := ⟨_, _, rfl, rfl, by decide, fun _ => .inl rfl⟩
theorem sra_C : Statement .sra_C := ⟨_, _, rfl, rfl, by decide, fun _ => .inl rfl⟩
theorem sra_D : Statement .sra_D := ⟨_, _, rfl, rfl, by decide, fun _ => .inl rfl⟩
theorem sra_E : Statement .sra_E := ⟨_, _, rfl, rfl, by decide, fun _ => .inl rfl⟩
theorem sra_H : Statement .sra_H := ⟨_, _, rfl, rfl, by decide, fun _ => .inl rfl⟩
theorem sra_L : Statement .sra_L := ⟨_, _, rfl, rfl, by decide, fun _ => .inl rfl⟩
theorem sra_MemHL : Statement .sra_MemHL := ⟨_, _, rfl, rfl, by decide, fun _ => .inl rfl⟩
theorem sra_A : Statement .sra_A := ⟨_, _, rfl, rfl, by decide, fun _ => .inl rfl⟩
theorem swap_B : Statement .swap_B := ⟨_, _, rfl, rfl, by decide, fun _ => .inl rfl⟩
theorem swap_C : Statement .swap_C := ⟨_, _, rfl, rfl, by decide, fun _ => .inl rfl⟩
theorem swap_D : Statement .swap_D := ⟨_, _, rfl, rfl, by decide, fun _ => .inl rfl⟩
theorem swap_E : Statement .swap_E := ⟨_, _, rfl, rfl, by decide, fun _ => .inl rfl⟩
theorem swap_H : Statement .swap_H := ⟨_, _, rfl, rfl, by decide, fun _ => .inl rfl⟩
theorem swap_L : Statement .swap_L := ⟨_, _, rfl, rfl, by decide, fun _ => .inl rfl⟩
theorem swap_MemHL : Statement .swap_MemHL := ⟨_, _, rfl, rfl, by decide, fun _ => .inl rfl⟩
theorem swap_A : Statement .swap_A := ⟨_, _, rfl, rfl, by decide, fun _ => .inl rfl⟩
theorem srl_B : Statement .srl_B := ⟨_, _, rfl, rfl, by decide, fun _ => .inl rfl⟩
theorem srl_C : Statement .srl_C := ⟨_, _, rfl, rfl, by decide, fun _ => .inl rfl⟩
theorem srl_D : Statement .srl_D := ⟨_, _, rfl, rfl, by decide, fun _ => .inl rfl⟩
theorem srl_E : Statement .srl_E := ⟨_, _, rfl, rfl, by decide, fun _ => .inl rfl⟩
theorem srl_H : Statement .srl_H := ⟨_, _, rfl, rfl, by decide, fun _ => .inl rfl⟩
theorem srl_L : Statement .srl_L := ⟨_, _, rfl, rfl, by decide, fun _ => .inl rfl⟩
theorem srl_MemHL : Statement .srl_MemHL := ⟨_, _, rfl, rfl, by decide, fun _ => .inl rfl⟩
theorem srl_A : Statement .srl_A := ⟨_, _, rfl, rfl, by decide, fun _ => .inl rfl⟩
theorem bit_0_B : Statement .bit_0_B := ⟨_, _, rfl, rfl, by decide, fun _ => .inl rfl⟩
theorem bit_0_C : Statement .bit_0_C := ⟨_, _, rfl, rfl, by decide, fun _ => .inl rfl⟩
theorem bit_0_D : Statement .bit_0_D := ⟨_, _, rfl, rfl, by decide, fun _ => .inl rfl⟩
theorem bit_0_E : Statement .bit_0_E := ⟨_, _, rfl, rfl, by decide, fun _ => .inl rfl⟩
theorem bit_0_H : Statement .bit_0_H := ⟨_, _, rfl, rfl, by decide, fun _ => .inl rfl⟩
theorem bit_0_L : Statement .bit_0_L := ⟨_, _, rfl, rfl, by decide, fun _ => .inl rfl⟩
theorem bit_0_MemHL : Statement .bit_0_MemHL := ⟨_, _, rfl, rfl, by decide, fun _ => .inl rfl⟩
theorem bit_0_A : Statement .bit_0_A := ⟨_, _, rfl, rfl, by decide, fun _ => .inl rfl⟩
theorem bit_1_B : Statement .bit_1_B := ⟨_, _, rfl, rfl, by decide, fun _ => .inl rfl⟩
theorem bit_1_C : Statement .bit_1_C := ⟨_, _, rfl, rfl, by decide, fun _ => .inl rfl⟩
theorem bit_1_D : Statement .bit_1_D := ⟨_, _, rfl, rfl, by decide, fun _ => .inl rfl⟩
theorem bit_1_E : Statement .bit_1_E := ⟨_, _, rfl, rfl, by decide, fun _ => .inl rfl⟩
theorem bit_1_H : Statement .bit_1_H := ⟨_, _, rfl, rfl, by decide, fun _ => .inl rfl⟩
theorem bit_1_L : Statement .bit_1_L := ⟨_, _, rfl, rfl, by decide, fun _ => .inl rfl⟩
theorem bit_1_MemHL : Statement .bit_1_MemHL := ⟨_, _, rfl, rfl, by decide, fun _ => .inl rfl⟩
theorem bit_1_A : Statement .bit_1_A := ⟨_, _, rfl, rfl, by decide, fun _ => .inl rfl⟩
theorem bit_2_B : Statement .bit_2_B := ⟨_, _, rfl, rfl, by decide, fun _ => .inl rfl⟩
theorem bit_2_C : Statement .bit_2_C := ⟨_, _, rfl, rfl, by decide, fun _ => .inl rfl⟩
theorem bit_2_D : Statement .bit_2_D := ⟨_, _, rfl, rfl, by decide, fun _ => .inl rfl⟩
theorem bit_2_E : Statement .bit_2_E := ⟨_, _, rfl, rfl, by decide, fun _ => .inl rfl⟩
theorem bit_2_H : Statement .bit_2_H := ⟨_, _, rfl, rfl, by decide, fun _ => .inl rfl⟩
theorem bit_2_L : Statement .bit_2_L := ⟨_, _, rfl, rfl, by decide, fun _ => .inl rfl⟩
theorem bit_2_MemHL : Statement .bit_2_MemHL := ⟨_, _, rfl, rfl, by decide, fun _ => .inl rfl⟩
theorem bit_2_A : Statement .bit_2_A := ⟨_, _, rfl, rfl, by decide, fun _ => .inl rfl⟩
theorem bit_3_B : Statement .bit_3_B := ⟨_, _, rfl, rfl, by decide, fun _ => .inl rfl⟩
theorem bit_3_C : Statement .bit_3_C := ⟨_, _, rfl, rfl, by decide, fun _ => .inl rfl⟩
theorem bit_3_D : Statement .bit_3_D := ⟨_, _, rfl, rfl, by decide, fun _ => .inl rfl⟩
theorem bit_3_E : Statement .bit_3_E := ⟨_, _, rfl, rfl, by decide, fun _ => .inl rfl⟩
theorem bit_3_H : Statement .bit_3_H := ⟨_, _, rfl, rfl, by decide, fun _ => .inl rfl⟩
theorem bit_3_L : Statement .bit_3_L := ⟨_, _, rfl, rfl, by decide, fun _ => .inl rfl⟩
theorem bit_3_MemHL : Statement .bit_3_MemHL := ⟨_, _, rfl, rfl, by decide, fun _ => .inl rfl⟩
theorem bit_3_A : Statement .bit_3_A := ⟨_, _, rfl, rfl, by decide, fun _ => .inl rfl⟩
theorem bit_4_B : Statement .bit_4_B := ⟨_, _, rfl, rfl, by decide, fun _ => .inl rfl⟩
theorem bit_4_C : Statement .bit_4_C := ⟨_, _, rfl, rfl, by decide, fun _ => .inl rfl⟩
theorem bit_4_D : Statement .bit_4_D := ⟨_, _, rfl, rfl, by decide, fun _ => .inl rfl⟩
theorem bit_4_E : Statement .bit_4_E := ⟨_, _, rfl, rfl, by decide, fun _ => .inl rfl⟩
theorem bit_4_H : Statement .bit_4_H := ⟨_, _, rfl, rfl, by decide, fun _ => .inl rfl⟩
theorem bit_4_L : Statement .bit_4_L := ⟨_, _, rfl, rfl, by decide, fun _ => .inl rfl⟩
theorem bit_4_MemHL : Statement .bit_4_MemHL := ⟨_, _, rfl, rfl, by decide, fun _ => .inl rfl⟩
theorem bit_4_A : Statement .bit_4_A := ⟨_, _, rfl, rfl, by decide, fun _ => .inl rfl⟩
theorem bit_5_B : Statement .bit_5_B := ⟨_, _, rfl, rfl, by decide, fun _ => .inl rfl⟩
theorem bit_5_C : Statement .bit_5_C := ⟨_, _, rfl, rfl, by decide, fun _ => .inl rfl⟩
theorem bit_5_D : Statement .bit_5_D := ⟨_, _, rfl, rfl, by decide, fun _ => .inl rfl⟩
theorem bit_5_E : Statement .bit_5_E := ⟨_, _, rfl, rfl, by decide, fun _ => .inl rfl⟩
theorem bit_5_H : Statement .bit_5_H := ⟨_, _, rfl, rfl, by decide, fun _ => .inl rfl⟩
theorem bit_5_L : Statement .bit_5_L := ⟨_, _, rfl, rfl, by decide, fun _ => .inl rfl⟩
theorem bit_5_MemHL : Statement .bit_5_MemHL := ⟨_, _, rfl, rfl, by decide, fun _ => .inl rfl⟩
theorem bit_5_A : Statement .bit_5_A := ⟨_, _, rfl, rfl, by decide, fun _ => .inl rfl⟩
theorem bit_6_B : Statement .bit_6_B := ⟨_, _, rfl, rfl, by decide, fun _ => .inl rfl⟩
theorem bit_6_C : Statement .bit_6_C := ⟨_, _, rfl, rfl, by decide, fun _ => .inl rfl⟩
theorem bit_6_D : Statement .bit_6_D := ⟨_, _, rfl, rfl, by decide, fun _ => .inl rfl⟩
theorem bit_6_E : Statement .bit_6_E := ⟨_, _, rfl, rfl, by decide, fun _ => .inl rfl⟩
theorem bit_6_H : Statement .bit_6_H := ⟨_, _, rfl, rfl, by decide, fun _ => .inl rfl⟩
theorem bit_6_L : Statement .bit_6_L := ⟨_, _, rfl, rfl, by decide, fun _ => .inl rfl⟩
theorem bit_6_MemHL : Statement .bit_6_MemHL := ⟨_, _, rfl, rfl, by decide, fun _ => .inl rfl⟩
theorem bit_6_A : Statement .bit_6_A := ⟨_, _, rfl, rfl, by decide, fun _ => .inl rfl⟩
theorem bit_7_B : Statement .bit_7_B := ⟨_, _, rfl, rfl, by decide, fun _ => .inl rfl⟩
theorem bit_7_C : Statement .bit_7_C := ⟨_, _, rfl, rfl, by decide, fun _ => .inl rfl⟩
theorem bit_7_D : Statement .bit_7_D := ⟨_, _, rfl, rfl, by decide, fun _ => .inl rfl⟩
theorem bit_7_E : Statement .bit_7_E := ⟨_, _, rfl, rfl, by decide, fun _ => .inl rfl⟩
theorem bit_7_H : Statement .bit_7_H := ⟨_, _, rfl, rfl, by decide, fun _ => .inl rfl⟩
theorem bit_7_L : Statement .bit_7_L := ⟨_, _, rfl, rfl, by decide, fun _ => .inl rfl⟩
theorem bit_7_MemHL : Statement .bit_7_MemHL := ⟨_, _, rfl, rfl, by decide, fun _ => .inl rfl⟩
theorem bit_7_A : Statement .bit_7_A := ⟨_, _, rfl, rfl, by decide, fun _ => .inl rfl⟩
theorem res_0_B : Statement .res_0_B := ⟨_, _, rfl, rfl, by decide, fun _ => .inl rfl⟩
theorem res_0_C : Statement .res_0_C := ⟨_, _, rfl, rfl, by decide, fun _ => .inl rfl⟩
theorem res_0_D : Statement .res_0_D := ⟨_, _, rfl, rfl, by decide, fun _ => .inl rfl⟩
theorem res_0_E : Statement .res_0_E := ⟨_, _, rfl, rfl, by decide, fun _ => .inl rfl⟩
theorem res_0_H : Statement .res_0_H := ⟨_, _, rfl, rfl, by decide, fun _ => .inl rfl⟩
theorem res_0_L : Statement .res_0_L := ⟨_, _, rfl, rfl, by decide, fun _ => .inl rfl⟩
theorem res_0_MemHL : Statement .res_0_MemHL := ⟨_, _, rfl, rfl, by decide, fun _ => .inl rfl⟩
theorem res_0_A : Statement .res_0_A := ⟨_, _, rfl, rfl, by decide, fun _ => .inl rfl⟩
theorem res_1_B : Statement .res_1_B := ⟨_, _, rfl, rfl, by decide, fun _ => .inl rfl⟩
theorem res_1_C : Statement .res_1_C := ⟨_, _, rfl, rfl, by decide, fun _ => .inl rfl⟩
theorem res_1_D : Statement .res_1_D := ⟨_, _, rfl, rfl, by decide, fun _ => .inl rfl⟩
theorem res_1_E : Statement .res_1_E := ⟨_, _, rfl, rfl, by decide, fun _ => .inl rfl⟩
theorem res_1_H : Statement .res_1_H := ⟨_, _, rfl, rfl, by decide, fun _ => .inl rfl⟩
theorem res_1_L : Statement .res_1_L := ⟨_, _, rfl, rfl, by decide, fun _ => .inl rfl⟩
theorem res_1_MemHL : Statement .res_1_MemHL := ⟨_, _, rfl, rfl, by decide, fun _ => .inl rfl⟩
theorem res_1_A : Statement .res_1_A := ⟨_, _, rfl, rfl, by decide, fun _ => .inl rfl⟩
theorem res_2_B : Statement .res_2_B := ⟨_, _, rfl, rfl, by decide, fun _ => .inl rfl⟩
theorem res_2_C : Statement .res_2_C := ⟨_, _, rfl, rfl, by decide, fun _ => .inl rfl⟩
theorem res_2_D : Statement .res_2_D := ⟨_, _, rfl, rfl, by decide, fun _ => .inl rfl⟩
theorem res_2_E : Statement .res_2_E := ⟨_, _, rfl, rfl, by decide, fun _ => .inl rfl⟩
theorem res_2_H : Statement .res_2_H := ⟨_, _, rfl, rfl, by decide, fun _ => .inl rfl⟩
theorem res_2_L : Statement .res_2_L := ⟨_, _, rfl, rfl, by decide, fun _ => .inl rfl⟩
theorem res_2_MemHL : Statement .res_2_MemHL := ⟨_, _, rfl, rfl, by decide, fun _ => .inl rfl⟩
theorem res_2_A : Statement .res_2_A := ⟨_, _, rfl, rfl, by decide, fun _ => .inl rfl⟩
theorem res_3_B : Statement .res_3_B := ⟨_, _, rfl, rfl, by decide, fun _ => .inl rfl⟩
theorem res_3_C : Statement .res_3_C := ⟨_, _, rfl, rfl, by decide, fun _ => .inl rfl⟩
theorem res_3_D : Statement .res_3_D := ⟨_, _, rfl, rfl, by decide, fun _ => .inl rfl⟩
theorem res_3_E : Statement .res_3_E := ⟨_, _, rfl, rfl, by decide, fun _ => .inl rfl⟩
theorem res_3_H : Statement .res_3_H := ⟨_, _, rfl, rfl, by decide, fun _ => .inl rfl⟩
theorem res_3_L : Statement .res_3_L := ⟨_, _, rfl, rfl, by decide, fun _ => .inl rfl⟩
theorem res_3_MemHL : Statement .res_3_MemHL := ⟨_, _, rfl, rfl, by decide, fun _ => .inl rfl⟩
theorem res_3_A : Statement .res_3_A := ⟨_, _, rfl, rfl, by decide, fun _ => .inl rfl⟩
theorem res_4_B : Statement .res_4_B := ⟨_, _, rfl, rfl, by decide, fun _ => .inl rfl⟩
theorem res_4_C : Statement .res_4_C := ⟨_, _, rfl, rfl, by decide, fun _ => .inl rfl⟩
theorem res_4_D : Statement .res_4_D := ⟨_, _, rfl, rfl, by decide, fun _ => .inl rfl⟩
theorem res_4_E : Statement .res_4_E := ⟨_, _, rfl, rfl, by decide, fun _ => .inl rfl⟩
theorem res_4_H : Statement .res_4_H := ⟨_, _, rfl, rfl, by decide, fun _ => .inl rfl⟩
theorem res_4_L : Statement .res_4_L := ⟨_, _, rfl, rfl, by decide, fun _ => .inl rfl⟩
theorem res_4_MemHL : Statement .res_4_MemHL := ⟨_, _, rfl, rfl, by decide, fun _ => .inl rfl⟩
theorem res_4_A : Statement .res_4_A := ⟨_, _, rfl, rfl, by decide, fun _ => .inl rfl⟩
theorem res_5_B : Statement .res_5_B := ⟨_, _, rfl, rfl, by decide, fun _ => .inl rfl⟩
theorem res_5_C : Statement .res_5_C := ⟨_, _, rfl, rfl, by decide, fun _ => .inl rfl⟩
theorem res_5_D : Statement .res_5_D := ⟨_, _, rfl, rfl, by decide, fun _ => .inl rfl⟩
theorem res_5_E : Statement .res_5_E := ⟨_, _, rfl, rfl, by decide, fun _ => .inl rfl⟩
theorem res_5_H : Statement .res_5_H := ⟨_, _, rfl, rfl, by decide, fun _ => .inl rfl⟩
theorem res_5_L : Statement .res_5_L := ⟨_, _, rfl, rfl, by decide, fun _ => .inl rfl⟩
theorem res_5_MemHL : Statement .res_5_MemHL := ⟨_, _, rfl, rfl, by decide, fun _ => .inl rfl⟩
theorem res_5_A : Statement .res_5_A := ⟨_, _, rfl, rfl, by decide, fun _ => .inl rfl⟩
theorem res_6_B : Statement .res_6_B := ⟨_, _, rfl, rfl, by decide, fun _ => .inl rfl⟩
theorem res_6_C : Statement .res_6_C := ⟨_, _, rfl, rfl, by decide, fun _ => .inl rfl⟩
theorem res_6_D : Statement .res_6_D := ⟨_, _, rfl, rfl, by decide, fun _ => .inl rfl⟩
theorem res_6_E : Statement .res_6_E := ⟨_, _, rfl, rfl, by decide, fun _ => .inl rfl⟩
theorem res_6_H : Statement .res_6_H := ⟨_, _, rfl, rfl, by decide, fun _ => .inl rfl⟩
theorem res_6_L : Statement .res_6_L := ⟨_, _, rfl, rfl, by decide, fun _ => .inl rfl⟩
theorem res_6_MemHL : Statement .res_6_MemHL := ⟨_, _, rfl, rfl, by decide, fun _ => .inl rfl⟩
theorem res_6_A : Statement .res_6_A := ⟨_, _, rfl, rfl, by decide, fun _ => .inl rfl⟩
theorem res_7_B : Statement .res_7_B := ⟨_, _, rfl, rfl, by decide, fun _ => .inl rfl⟩
theorem res_7_C : Statement .res_7_C := ⟨_, _, rfl, rfl, by decide, fun _ => .inl rfl⟩
theorem res_7_D : Statement .res_7_D := ⟨_, _, rfl, rfl, by decide, fun _ => .inl rfl⟩
theorem res_7_E : Statement .res_7_E := ⟨_, _, rfl, rfl, by decide, fun _ => .inl rfl⟩
theorem res_7_H : Statement .res_7_H := ⟨_, _, rfl, rfl, by decide, fun _ => .inl rfl⟩
theorem res_7_L : Statement .res_7_L := ⟨_, _, rfl, rfl, by decide, fun _ => .inl rfl⟩
theorem res_7_MemHL : Statement .res_7_MemHL := ⟨_, _, rfl, rfl, by decide, fun _ => .inl rfl⟩
theorem res_7_A : Statement .res_7_A := ⟨_, _, rfl, rfl, by decide, fun _ => .inl rfl⟩
theorem set_0_B : Statement .set_0_B := ⟨_, _, rfl, rfl, by decide, fun _ => .inl rfl⟩
theorem set_0_C : Statement .set_0_C := ⟨_, _, rfl, rfl, by decide, fun _ => .inl rfl⟩
theorem set_0_D : Statement .set_0_D := ⟨_, _, rfl, rfl, by decide, fun _ => .inl rfl⟩
theorem set_0_E : Statement .set_0_E := ⟨_, _, rfl, rfl, by decide, fun _ => .inl rfl⟩
theorem set_0_H : Statement .set_0_H := ⟨_, _, rfl, rfl, by decide, fun _ => .inl rfl⟩
theorem set_0_L : Statement .set_0_L := ⟨_, _, rfl, rfl, by decide, fun _ => .inl rfl⟩
theorem set_0_MemHL : Statement .set_0_MemHL := ⟨_, _, rfl, rfl, by decide, fun _ => .inl rfl⟩
theorem set_0_A : Statement .set_0_A := ⟨_, _, rfl, rfl, by decide, fun _ => .inl rfl⟩
theorem set_1_B : Statement .set_1_B := ⟨_, _, rfl, rfl, by decide, fun _ => .inl rfl⟩
theorem set_1_C : Statement .set_1_C := ⟨_, _, rfl, rfl, by decide, fun _ => .inl rfl⟩
theorem set_1_D : Statement .set_1_D := ⟨_, _, rfl, rfl, by decide, fun _ => .inl rfl⟩
theorem set_1_E : Statement .set_1_E := ⟨_, _, rfl, rfl, by decide, fun _ => .inl rfl⟩
theorem set_1_H : Statement .set_1_H := ⟨_, _, rfl, rfl, by decide, fun _ => .inl rfl⟩
theorem set_1_L : Statement .set_1_L := ⟨_, _, rfl, rfl, by decide, fun _ => .inl rfl⟩
theorem set_1_MemHL : Statement .set_1_MemHL := ⟨_, _, rfl, rfl, by decide, fun _ => .inl rfl⟩
theorem set_1_A : Statement .set_1_A := ⟨_, _, rfl, rfl, by decide, fun _ => .inl rfl⟩
theorem set_2_B : Statement .set_2_B := ⟨_, _, rfl, rfl, by decide, fun _ => .inl rfl⟩
theorem set_2_C : Statement .set_2_C := ⟨_, _, rfl, rfl, by decide, fun _ => .inl rfl⟩
theorem set_2_D : Statement .set_2_D := ⟨_, _, rfl, rfl, by decide, fun _ => .inl rfl⟩
theorem set_2_E : Statement .set_2_E := ⟨_, _, rfl, rfl, by decide, fun _ => .inl rfl⟩
theorem set_2_H : Statement .set_2_H := ⟨_, _, rfl, rfl, by decide, fun _ => .inl rfl⟩
theorem set_2_L : Statement .set_2_L := ⟨_, _, rfl, rfl, by decide, fun _ => .inl rfl⟩
theorem set_2_MemHL : Statement .set_2_MemHL := ⟨_, _, rfl, rfl, by decide, fun _ => .inl rfl⟩
theorem set_2_A : Statement .set_2_A := ⟨_, _, rfl, rfl, by decide, fun _ => .inl rfl⟩
theorem set_3_B : Statement .set_3_B := ⟨_, _, rfl, rfl, by decide, fun _ => .inl rfl⟩
theorem set_3_C : Statement .set_3_C := ⟨_, _, rfl, rfl, by decide, fun _ => .inl rfl⟩
theorem set_3_D : Statement .set_3_D := ⟨_, _, rfl, rfl, by decide, fun _ => .inl rfl⟩
theorem set_3_E : Statement .set_3_E := ⟨_, _, rfl, rfl, by decide, fun _ => .inl rfl⟩
theorem set_3_H : Statement .set_3_H := ⟨_, _, rfl, rfl, by decide, fun _ => .inl rfl⟩
theorem set_3_L : Statement .set_3_L := ⟨_, _, rfl, rfl, by decide, fun _ => .inl rfl⟩
theorem set_3_MemHL : Statement .set_3_MemHL := ⟨_, _, rfl, rfl, by decide, fun _ => .inl rfl⟩
theorem set_3_A : Statement .set_3_A := ⟨_, _, rfl, rfl, by decide, fun _ => .inl rfl⟩
theorem set_4_B : Statement .set_4_B := ⟨_, _, rfl, rfl, by decide, fun _ => .inl rfl⟩
theorem set_4_C : Statement .set_4_C := ⟨_, _, rfl, rfl, by decide, fun _ => .inl rfl⟩
theorem set_4_D : Statement .set_4_D := ⟨_, _, rfl, rfl, by decide, fun _ => .inl rfl⟩
theorem set_4_E : Statement .set_4_E := ⟨_, _, rfl, rfl, by decide, fun _ => .inl rfl⟩
theorem set_4_H : Statement .set_4_H := ⟨_, _, rfl, rfl, by decide, fun _ => .inl rfl⟩
theorem set_4_L : Statement .set_4_L := ⟨_, _, rfl, rfl, by decide, fun _ => .inl rfl⟩
theorem set_4_MemHL : Statement .set_4_MemHL := ⟨_, _, rfl, rfl, by decide, fun _ => .inl rfl⟩
theorem set_4_A : Statement .set_4_A := ⟨_, _, rfl, rfl, by decide, fun _ => .inl rfl⟩
theorem set_5_B : Statement .set_5_B := ⟨_, _, rfl, rfl, by decide, fun _ => .inl rfl⟩
theorem set_5_C : Statement .set_5_C := ⟨_, _, rfl, rfl, by decide, fun _ => .inl rfl⟩
theorem set_5_D : Statement .set_5_D := ⟨_, _, rfl, rfl, by decide, fun _ => .inl rfl⟩
theorem set_5_E : Statement .set_5_E := ⟨_, _, rfl, rfl, by decide, fun _ => .inl rfl⟩
theorem set_5_H : Statement .set_5_H := ⟨_, _, rfl, rfl, by decide, fun _ => .inl rfl⟩
theorem set_5_L : Statement .set_5_L := ⟨_, _, rfl, rfl, by decide, fun _ => .inl rfl⟩
theorem set_5_MemHL : Statement .set_5_MemHL := ⟨_, _, rfl, rfl, by decide, fun _ => .inl rfl⟩
theorem set_5_A : Statement .set_5_A := ⟨_, _, rfl, rfl, by decide, fun _ => .inl rfl⟩
theorem set_6_B : Statement .set_6_B := ⟨_, _, rfl, rfl, by decide, fun _ => .inl rfl⟩
theorem set_6_C : Statement .set_6_C := ⟨_, _, rfl, rfl, by decide, fun _ => .inl rfl⟩
theorem set_6_D : Statement .set_6_D := ⟨_, _, rfl, rfl, by decide, fun _ => .inl rfl⟩
theorem set_6_E : Statement .set_6_E := ⟨_, _, rfl, rfl, by decide, fun _ => .inl rfl⟩
theorem set_6_H : Statement .set_6_H := ⟨_, _, rfl, rfl, by decide, fun _ => .inl rfl⟩
theorem set_6_L : Statement .set_6_L := ⟨_, _, rfl, rfl, by decide, fun _ => .inl rfl⟩
theorem set_6_MemHL : Statement .set_6_MemHL := ⟨_, _, rfl, rfl, by decide, fun _ => .inl rfl⟩
theorem set_6_A : Statement .set_6_A := ⟨_, _, rfl, rfl, by decide, fun _ => .inl rfl⟩
theorem set_7_B : Statement .set_7_B := ⟨_, _, rfl, rfl, by decide, fun _ => .inl rfl⟩
theorem set_7_C : Statement .set_7_C := ⟨_, _, rfl, rfl, by decide, fun _ => .inl rfl⟩
theorem set_7_D : Statement .set_7_D := ⟨_, _, rfl, rfl, by decide, fun _ => .inl rfl⟩
theorem set_7_E : Statement .set_7_E := ⟨_, _, rfl, rfl, by decide, fun _ => .inl rfl⟩
theorem set_7_H : Statement .set_7_H := ⟨_, _, rfl, rfl, by decide, fun _ => .inl rfl⟩
theorem set_7_L : Statement .set_7_L := ⟨_, _, rfl, rfl, by decide, fun _ => .inl rfl⟩
theorem set_7_MemHL : Statement .set_7_MemHL := ⟨_, _, rfl, rfl, by decide, fun _ => .inl rfl⟩
theorem set_7_A : Statement .set_7_A := ⟨_, _, rfl, rfl, by decide, fun _ => .inl rfl⟩

end Sys2Proof.Laws.Length
end

