-- ==== Sys2Proof/Laws/Shape.lean ====
section
/-! SUPPORT. Said once: every meaning is one of the shared operations. A fact about all instructions is proved by cases on
`Shape` (one case per operation) instead of on the 512 constructors. -/

namespace Sys2Proof.Laws

open Sys2Proof Sys2Proof.Machine

/-- What `exec` can do from a state: one of the shared operations, with its operands and costs. -/
inductive Shape (s : State) : Result → Prop
  | ldReg (dst src : R8) (k : Nat) : Shape s (Machine.ldReg dst src k s)
  | ldImm (dst : R8) (n : Byte) (k : Nat) : Shape s (Machine.ldImm dst n k s)
  | ldAFrom (addr : Word) (k : Nat) : Shape s (Machine.ldAFrom addr k s)
  | ldAInto (addr : Word) (k : Nat) : Shape s (Machine.ldAInto addr k s)
  | ldAStep (delta : Word) (k : Nat) : Shape s (Machine.ldAStep delta k s)
  | stAStep (delta : Word) (k : Nat) : Shape s (Machine.stAStep delta k s)
  | ldImm16 (p : R16) (nn : Word) (k : Nat) : Shape s (Machine.ldImm16 p nn k s)
  | ldMemSp (addr : Word) (k : Nat) : Shape s (Machine.ldMemSp addr k s)
  | ldSpHl (k : Nat) : Shape s (Machine.ldSpHl k s)
  | push (p : R16Stk) (k : Nat) : Shape s (Machine.push p k s)
  | pop (p : R16Stk) (k : Nat) : Shape s (Machine.pop p k s)
  | ldHlSp (e : Byte) (k : Nat) : Shape s (Machine.ldHlSp e k s)
  | aluReg (op : AluOp) (src : R8) (k : Nat) : Shape s (Machine.aluReg op src k s)
  | aluImm (op : AluOp) (n : Byte) (k : Nat) : Shape s (Machine.aluImm op n k s)
  | incR8 (r : R8) (k : Nat) : Shape s (Machine.incR8 r k s)
  | decR8 (r : R8) (k : Nat) : Shape s (Machine.decR8 r k s)
  | daaOp (k : Nat) : Shape s (Machine.daaOp k s)
  | cplOp (k : Nat) : Shape s (Machine.cplOp k s)
  | scfOp (k : Nat) : Shape s (Machine.scfOp k s)
  | ccfOp (k : Nat) : Shape s (Machine.ccfOp k s)
  | addHl (p : R16) (k : Nat) : Shape s (Machine.addHl p k s)
  | incR16 (p : R16) (k : Nat) : Shape s (Machine.incR16 p k s)
  | decR16 (p : R16) (k : Nat) : Shape s (Machine.decR16 p k s)
  | addSp (e : Byte) (k : Nat) : Shape s (Machine.addSp e k s)
  | rotA (op : RotOp) (k : Nat) : Shape s (Machine.rotA op k s)
  | rotR8 (op : RotOp) (r : R8) (k : Nat) : Shape s (Machine.rotR8 op r k s)
  | bitTest (b : Nat) (r : R8) (k : Nat) : Shape s (Machine.bitTest b r k s)
  | bitReset (b : Nat) (r : R8) (k : Nat) : Shape s (Machine.bitReset b r k s)
  | bitSet (b : Nat) (r : R8) (k : Nat) : Shape s (Machine.bitSet b r k s)
  | jump (target : Word) (k : Nat) : Shape s (Machine.jump target k s)
  | jumpIf (cond : Cond) (target : Word) (taken k : Nat) : Shape s (Machine.jumpIf cond target taken k s)
  | call (target : Word) (k : Nat) : Shape s (Machine.call target k s)
  | callIf (cond : Cond) (target : Word) (taken k : Nat) : Shape s (Machine.callIf cond target taken k s)
  | retOp (k : Nat) : Shape s (Machine.retOp k s)
  | retIf (cond : Cond) (taken k : Nat) : Shape s (Machine.retIf cond taken k s)
  | retiOp (k : Nat) : Shape s (Machine.retiOp k s)
  | nopOp (k : Nat) : Shape s (Machine.nopOp k s)
  | haltOp (k : Nat) : Shape s (Machine.haltOp k s)
  | stopOp (k : Nat) : Shape s (Machine.stopOp k s)
  | diOp (k : Nat) : Shape s (Machine.diOp k s)
  | eiOp (k : Nat) : Shape s (Machine.eiOp k s)
  | unusedOp (k : Nat) : Shape s (Machine.unusedOp k s)

/-- Every instruction is one of the shared operations. -/
theorem exec_shape (i : Instr) (s : State) : Shape s (exec i s) :=
  match i with
  | .ld_BC_n16 nn => .ldImm16 .bc nn 12
  | .ld_B_n8 n => .ldImm .b n 8
  | .ld_MemA16_SP nn => .ldMemSp nn 20
  | .ld_C_n8 n => .ldImm .c n 8
  | .stop _ => .stopOp 4
  | .ld_DE_n16 nn => .ldImm16 .de nn 12
  | .ld_D_n8 n => .ldImm .d n 8
  | .jr_e8 e => .jump (relTarget s.pc e) 12
  | .ld_E_n8 n => .ldImm .e n 8
  | .jr_NZ_e8 e => .jumpIf .nz (relTarget s.pc e) 12 8
  | .ld_HL_n16 nn => .ldImm16 .hl nn 12
  | .ld_H_n8 n => .ldImm .h n 8
  | .jr_Z_e8 e => .jumpIf .z (relTarget s.pc e) 12 8
  | .ld_L_n8 n => .ldImm .l n 8
  | .jr_NC_e8 e => .jumpIf .nc (relTarget s.pc e) 12 8
  | .ld_SP_n16 nn => .ldImm16 .sp nn 12
  | .ld_MemHL_n8 n => .ldImm .mHL n 12
  | .jr_C_e8 e => .jumpIf .c (relTarget s.pc e) 12 8
  | .ld_A_n8 n => .ldImm .a n 8
  | .jp_NZ_a16 nn => .jumpIf .nz nn 16 12
  | .jp_a16 nn => .jump nn 16
  | .call_NZ_a16 nn => .callIf .nz nn 24 12
  | .add_A_n8 n => .aluImm .add n 8
  | .jp_Z_a16 nn => .jumpIf .z nn 16 12
  | .call_Z_a16 nn => .callIf .z nn 24 12
  | .call_a16 nn => .call nn 24
  | .adc_A_n8 n => .aluImm .adc n 8
  | .jp_NC_a16 nn => .jumpIf .nc nn 16 12
  | .call_NC_a16 nn => .callIf .nc nn 24 12
  | .sub_A_n8 n => .aluImm .sub n 8
  | .jp_C_a16 nn => .jumpIf .c nn 16 12
  | .call_C_a16 nn => .callIf .c nn 24 12
  | .sbc_A_n8 n => .aluImm .sbc n 8
  | .ldh_MemA8_A a => .ldAInto (highPage a) 12
  | .and_A_n8 n => .aluImm .and n 8
  | .add_SP_e8 e => .addSp e 16
  | .ld_MemA16_A nn => .ldAInto nn 16
  | .xor_A_n8 n => .aluImm .xor n 8
  | .ldh_A_MemA8 a => .ldAFrom (highPage a) 12
  | .or_A_n8 n => .aluImm .or n 8
  | .ld_HL_SPe8 e => .ldHlSp e 12
  | .ld_A_MemA16 nn => .ldAFrom nn 16
  | .cp_A_n8 n => .aluImm .cp n 8
  | .nop => .nopOp 4
  | .ld_MemBC_A => .ldAInto s.bc 8
  | .inc_BC => .incR16 .bc 8
  | .inc_B => .incR8 .b 4
  | .dec_B => .decR8 .b 4
  | .rlca => .rotA .rlc 4
  | .add_HL_BC => .addHl .bc 8
  | .ld_A_MemBC => .ldAFrom s.bc 8
  | .dec_BC => .decR16 .bc 8
  | .inc_C => .incR8 .c 4
  | .dec_C => .decR8 .c 4
  | .rrca => .rotA .rrc 4
  | .ld_MemDE_A => .ldAInto s.de 8
  | .inc_DE => .incR16 .de 8
  | .inc_D => .incR8 .d 4
  | .dec_D => .decR8 .d 4
  | .rla => .rotA .rl 4
  | .add_HL_DE => .addHl .de 8
  | .ld_A_MemDE => .ldAFrom s.de 8
  | .dec_DE => .decR16 .de 8
  | .inc_E => .incR8 .e 4
  | .dec_E => .decR8 .e 4
  | .rra => .rotA .rr 4
  | .ld_MemHLInc_A => .stAStep 1 8
  | .inc_HL => .incR16 .hl 8
  | .inc_H => .incR8 .h 4
  | .dec_H => .decR8 .h 4
  | .daa => .daaOp 4
  | .add_HL_HL => .addHl .hl 8
  | .ld_A_MemHLInc => .ldAStep 1 8
  | .dec_HL => .decR16 .hl 8
  | .inc_L => .incR8 .l 4
  | .dec_L => .decR8 .l 4
  | .cpl => .cplOp 4
  | .ld_MemHLDec_A => .stAStep 0xFFFF 8
  | .inc_SP => .incR16 .sp 8
  | .inc_MemHL => .incR8 .mHL 12
  | .dec_MemHL => .decR8 .mHL 12
  | .scf => .scfOp 4
  | .add_HL_SP => .addHl .sp 8
  | .ld_A_MemHLDec => .ldAStep 0xFFFF 8
  | .dec_SP => .decR16 .sp 8
  | .inc_A => .incR8 .a 4
  | .dec_A => .decR8 .a 4
  | .ccf => .ccfOp 4
  | .ld_B_B => .ldReg .b .b 4
  | .ld_B_C => .ldReg .b .c 4
  | .ld_B_D => .ldReg .b .d 4
  | .ld_B_E => .ldReg .b .e 4
  | .ld_B_H => .ldReg .b .h 4
  | .ld_B_L => .ldReg .b .l 4
  | .ld_B_MemHL => .ldReg .b .mHL 8
  | .ld_B_A => .ldReg .b .a 4
  | .ld_C_B => .ldReg .c .b 4
  | .ld_C_C => .ldReg .c .c 4
  | .ld_C_D => .ldReg .c .d 4
  | .ld_C_E => .ldReg .c .e 4
  | .ld_C_H => .ldReg .c .h 4
  | .ld_C_L => .ldReg .c .l 4
  | .ld_C_MemHL => .ldReg .c .mHL 8
  | .ld_C_A => .ldReg .c .a 4
  | .ld_D_B => .ldReg .d .b 4
  | .ld_D_C => .ldReg .d .c 4
  | .ld_D_D => .ldReg .d .d 4
  | .ld_D_E => .ldReg .d .e 4
  | .ld_D_H => .ldReg .d .h 4
  | .ld_D_L => .ldReg .d .l 4
  | .ld_D_MemHL => .ldReg .d .mHL 8
  | .ld_D_A => .ldReg .d .a 4
  | .ld_E_B => .ldReg .e .b 4
  | .ld_E_C => .ldReg .e .c 4
  | .ld_E_D => .ldReg .e .d 4
  | .ld_E_E => .ldReg .e .e 4
  | .ld_E_H => .ldReg .e .h 4
  | .ld_E_L => .ldReg .e .l 4
  | .ld_E_MemHL => .ldReg .e .mHL 8
  | .ld_E_A => .ldReg .e .a 4
  | .ld_H_B => .ldReg .h .b 4
  | .ld_H_C => .ldReg .h .c 4
  | .ld_H_D => .ldReg .h .d 4
  | .ld_H_E => .ldReg .h .e 4
  | .ld_H_H => .ldReg .h .h 4
  | .ld_H_L => .ldReg .h .l 4
  | .ld_H_MemHL => .ldReg .h .mHL 8
  | .ld_H_A => .ldReg .h .a 4
  | .ld_L_B => .ldReg .l .b 4
  | .ld_L_C => .ldReg .l .c 4
  | .ld_L_D => .ldReg .l .d 4
  | .ld_L_E => .ldReg .l .e 4
  | .ld_L_H => .ldReg .l .h 4
  | .ld_L_L => .ldReg .l .l 4
  | .ld_L_MemHL => .ldReg .l .mHL 8
  | .ld_L_A => .ldReg .l .a 4
  | .ld_MemHL_B => .ldReg .mHL .b 8
  | .ld_MemHL_C => .ldReg .mHL .c 8
  | .ld_MemHL_D => .ldReg .mHL .d 8
  | .ld_MemHL_E => .ldReg .mHL .e 8
  | .ld_MemHL_H => .ldReg .mHL .h 8
  | .ld_MemHL_L => .ldReg .mHL .l 8
  | .halt => .haltOp 4
  | .ld_MemHL_A => .ldReg .mHL .a 8
  | .ld_A_B => .ldReg .a .b 4
  | .ld_A_C => .ldReg .a .c 4
  | .ld_A_D => .ldReg .a .d 4
  | .ld_A_E => .ldReg .a .e 4
  | .ld_A_H => .ldReg .a .h 4
  | .ld_A_L => .ldReg .a .l 4
  | .ld_A_MemHL => .ldReg .a .mHL 8
  | .ld_A_A => .ldReg .a .a 4
  | .add_A_B => .aluReg .add .b 4
  | .add_A_C => .aluReg .add .c 4
  | .add_A_D => .aluReg .add .d 4
  | .add_A_E => .aluReg .add .e 4
  | .add_A_H => .aluReg .add .h 4
  | .add_A_L => .aluReg .add .l 4
  | .add_A_MemHL => .aluReg .add .mHL 8
  | .add_A_A => .aluReg .add .a 4
  | .adc_A_B => .aluReg .adc .b 4
  | .adc_A_C => .aluReg .adc .c 4
  | .adc_A_D => .aluReg .adc .d 4
  | .adc_A_E => .aluReg .adc .e 4
  | .adc_A_H => .aluReg .adc .h 4
  | .adc_A_L => .aluReg .adc .l 4
  | .adc_A_MemHL => .aluReg .adc .mHL 8
  | .adc_A_A => .aluReg .adc .a 4
  | .sub_A_B => .aluReg .sub .b 4
  | .sub_A_C => .aluReg .sub .c 4
  | .sub_A_D => .aluReg .sub .d 4
  | .sub_A_E => .aluReg .sub .e 4
  | .sub_A_H => .aluReg .sub .h 4
  | .sub_A_L => .aluReg .sub .l 4
  | .sub_A_MemHL => .aluReg .sub .mHL 8
  | .sub_A_A => .aluReg .sub .a 4
  | .sbc_A_B => .aluReg .sbc .b 4
  | .sbc_A_C => .aluReg .sbc .c 4
  | .sbc_A_D => .aluReg .sbc .d 4
  | .sbc_A_E => .aluReg .sbc .e 4
  | .sbc_A_H => .aluReg .sbc .h 4
  | .sbc_A_L => .aluReg .sbc .l 4
  | .sbc_A_MemHL => .aluReg .sbc .mHL 8
  | .sbc_A_A => .aluReg .sbc .a 4
  | .and_A_B => .aluReg .and .b 4
  | .and_A_C => .aluReg .and .c 4
  | .and_A_D => .aluReg .and .d 4
  | .and_A_E => .aluReg .and .e 4
  | .and_A_H => .aluReg .and .h 4
  | .and_A_L => .aluReg .and .l 4
  | .and_A_MemHL => .aluReg .and .mHL 8
  | .and_A_A => .aluReg .and .a 4
  | .xor_A_B => .aluReg .xor .b 4
  | .xor_A_C => .aluReg .xor .c 4
  | .xor_A_D => .aluReg .xor .d 4
  | .xor_A_E => .aluReg .xor .e 4
  | .xor_A_H => .aluReg .xor .h 4
  | .xor_A_L => .aluReg .xor .l 4
  | .xor_A_MemHL => .aluReg .xor .mHL 8
  | .xor_A_A => .aluReg .xor .a 4
  | .or_A_B => .aluReg .or .b 4
  | .or_A_C => .aluReg .or .c 4
  | .or_A_D => .aluReg .or .d 4
  | .or_A_E => .aluReg .or .e 4
  | .or_A_H => .aluReg .or .h 4
  | .or_A_L => .aluReg .or .l 4
  | .or_A_MemHL => .aluReg .or .mHL 8
  | .or_A_A => .aluReg .or .a 4
  | .cp_A_B => .aluReg .cp .b 4
  | .cp_A_C => .aluReg .cp .c 4
  | .cp_A_D => .aluReg .cp .d 4
  | .cp_A_E => .aluReg .cp .e 4
  | .cp_A_H => .aluReg .cp .h 4
  | .cp_A_L => .aluReg .cp .l 4
  | .cp_A_MemHL => .aluReg .cp .mHL 8
  | .cp_A_A => .aluReg .cp .a 4
  | .ret_NZ => .retIf .nz 20 8
  | .pop_BC => .pop .bc 12
  | .push_BC => .push .bc 16
  | .rst_00 => .call 0x00 16
  | .ret_Z => .retIf .z 20 8
  | .ret => .retOp 16
  | .cbPrefix => .nopOp 0
  | .rst_08 => .call 0x08 16
  | .ret_NC => .retIf .nc 20 8
  | .pop_DE => .pop .de 12
  | .unused_D3 => .unusedOp 4
  | .push_DE => .push .de 16
  | .rst_10 => .call 0x10 16
  | .ret_C => .retIf .c 20 8
  | .reti => .retiOp 16
  | .unused_DB => .unusedOp 4
  | .unused_DD => .unusedOp 4
  | .rst_18 => .call 0x18 16
  | .pop_HL => .pop .hl 12
  | .ld_MemC_A => .ldAInto (highPage s.c) 8
  | .unused_E3 => .unusedOp 4
  | .unused_E4 => .unusedOp 4
  | .push_HL => .push .hl 16
  | .rst_20 => .call 0x20 16
  | .jp_HL => .jump s.hl 4
  | .unused_EB => .unusedOp 4
  | .unused_EC => .unusedOp 4
  | .unused_ED => .unusedOp 4
  | .rst_28 => .call 0x28 16
  | .pop_AF => .pop .af 12
  | .ld_A_MemC => .ldAFrom (highPage s.c) 8
  | .di => .diOp 4
  | .unused_F4 => .unusedOp 4
  | .push_AF => .push .af 16
  | .rst_30 => .call 0x30 16
  | .ld_SP_HL => .ldSpHl 8
  | .ei => .eiOp 4
  | .unused_FC => .unusedOp 4
  | .unused_FD => .unusedOp 4
  | .rst_38 => .call 0x38 16
  | .rlc_B => .rotR8 .rlc .b 8
  | .rlc_C => .rotR8 .rlc .c 8
  | .rlc_D => .rotR8 .rlc .d 8
  | .rlc_E => .rotR8 .rlc .e 8
  | .rlc_H => .rotR8 .rlc .h 8
  | .rlc_L => .rotR8 .rlc .l 8
  | .rlc_MemHL => .rotR8 .rlc .mHL 16
  | .rlc_A => .rotR8 .rlc .a 8
  | .rrc_B => .rotR8 .rrc .b 8
  | .rrc_C => .rotR8 .rrc .c 8
  | .rrc_D => .rotR8 .rrc .d 8
  | .rrc_E => .rotR8 .rrc .e 8
  | .rrc_H => .rotR8 .rrc .h 8
  | .rrc_L => .rotR8 .rrc .l 8
  | .rrc_MemHL => .rotR8 .rrc .mHL 16
  | .rrc_A => .rotR8 .rrc .a 8
  | .rl_B => .rotR8 .rl .b 8
  | .rl_C => .rotR8 .rl .c 8
  | .rl_D => .rotR8 .rl .d 8
  | .rl_E => .rotR8 .rl .e 8
  | .rl_H => .rotR8 .rl .h 8
  | .rl_L => .rotR8 .rl .l 8
  | .rl_MemHL => .rotR8 .rl .mHL 16
  | .rl_A => .rotR8 .rl .a 8
  | .rr_B => .rotR8 .rr .b 8
  | .rr_C => .rotR8 .rr .c 8
  | .rr_D => .rotR8 .rr .d 8
  | .rr_E => .rotR8 .rr .e 8
  | .rr_H => .rotR8 .rr .h 8
  | .rr_L => .rotR8 .rr .l 8
  | .rr_MemHL => .rotR8 .rr .mHL 16
  | .rr_A => .rotR8 .rr .a 8
  | .sla_B => .rotR8 .sla .b 8
  | .sla_C => .rotR8 .sla .c 8
  | .sla_D => .rotR8 .sla .d 8
  | .sla_E => .rotR8 .sla .e 8
  | .sla_H => .rotR8 .sla .h 8
  | .sla_L => .rotR8 .sla .l 8
  | .sla_MemHL => .rotR8 .sla .mHL 16
  | .sla_A => .rotR8 .sla .a 8
  | .sra_B => .rotR8 .sra .b 8
  | .sra_C => .rotR8 .sra .c 8
  | .sra_D => .rotR8 .sra .d 8
  | .sra_E => .rotR8 .sra .e 8
  | .sra_H => .rotR8 .sra .h 8
  | .sra_L => .rotR8 .sra .l 8
  | .sra_MemHL => .rotR8 .sra .mHL 16
  | .sra_A => .rotR8 .sra .a 8
  | .swap_B => .rotR8 .swap .b 8
  | .swap_C => .rotR8 .swap .c 8
  | .swap_D => .rotR8 .swap .d 8
  | .swap_E => .rotR8 .swap .e 8
  | .swap_H => .rotR8 .swap .h 8
  | .swap_L => .rotR8 .swap .l 8
  | .swap_MemHL => .rotR8 .swap .mHL 16
  | .swap_A => .rotR8 .swap .a 8
  | .srl_B => .rotR8 .srl .b 8
  | .srl_C => .rotR8 .srl .c 8
  | .srl_D => .rotR8 .srl .d 8
  | .srl_E => .rotR8 .srl .e 8
  | .srl_H => .rotR8 .srl .h 8
  | .srl_L => .rotR8 .srl .l 8
  | .srl_MemHL => .rotR8 .srl .mHL 16
  | .srl_A => .rotR8 .srl .a 8
  | .bit_0_B => .bitTest 0 .b 8
  | .bit_0_C => .bitTest 0 .c 8
  | .bit_0_D => .bitTest 0 .d 8
  | .bit_0_E => .bitTest 0 .e 8
  | .bit_0_H => .bitTest 0 .h 8
  | .bit_0_L => .bitTest 0 .l 8
  | .bit_0_MemHL => .bitTest 0 .mHL 12
  | .bit_0_A => .bitTest 0 .a 8
  | .bit_1_B => .bitTest 1 .b 8
  | .bit_1_C => .bitTest 1 .c 8
  | .bit_1_D => .bitTest 1 .d 8
  | .bit_1_E => .bitTest 1 .e 8
  | .bit_1_H => .bitTest 1 .h 8
  | .bit_1_L => .bitTest 1 .l 8
  | .bit_1_MemHL => .bitTest 1 .mHL 12
  | .bit_1_A => .bitTest 1 .a 8
  | .bit_2_B => .bitTest 2 .b 8
  | .bit_2_C => .bitTest 2 .c 8
  | .bit_2_D => .bitTest 2 .d 8
  | .bit_2_E => .bitTest 2 .e 8
  | .bit_2_H => .bitTest 2 .h 8
  | .bit_2_L => .bitTest 2 .l 8
  | .bit_2_MemHL => .bitTest 2 .mHL 12
  | .bit_2_A => .bitTest 2 .a 8
  | .bit_3_B => .bitTest 3 .b 8
  | .bit_3_C => .bitTest 3 .c 8
  | .bit_3_D => .bitTest 3 .d 8
  | .bit_3_E => .bitTest 3 .e 8
  | .bit_3_H => .bitTest 3 .h 8
  | .bit_3_L => .bitTest 3 .l 8
  | .bit_3_MemHL => .bitTest 3 .mHL 12
  | .bit_3_A => .bitTest 3 .a 8
  | .bit_4_B => .bitTest 4 .b 8
  | .bit_4_C => .bitTest 4 .c 8
  | .bit_4_D => .bitTest 4 .d 8
  | .bit_4_E => .bitTest 4 .e 8
  | .bit_4_H => .bitTest 4 .h 8
  | .bit_4_L => .bitTest 4 .l 8
  | .bit_4_MemHL => .bitTest 4 .mHL 12
  | .bit_4_A => .bitTest 4 .a 8
  | .bit_5_B => .bitTest 5 .b 8
  | .bit_5_C => .bitTest 5 .c 8
  | .bit_5_D => .bitTest 5 .d 8
  | .bit_5_E => .bitTest 5 .e 8
  | .bit_5_H => .bitTest 5 .h 8
  | .bit_5_L => .bitTest 5 .l 8
  | .bit_5_MemHL => .bitTest 5 .mHL 12
  | .bit_5_A => .bitTest 5 .a 8
  | .bit_6_B => .bitTest 6 .b 8
  | .bit_6_C => .bitTest 6 .c 8
  | .bit_6_D => .bitTest 6 .d 8
  | .bit_6_E => .bitTest 6 .e 8
  | .bit_6_H => .bitTest 6 .h 8
  | .bit_6_L => .bitTest 6 .l 8
  | .bit_6_MemHL => .bitTest 6 .mHL 12
  | .bit_6_A => .bitTest 6 .a 8
  | .bit_7_B => .bitTest 7 .b 8
  | .bit_7_C => .bitTest 7 .c 8
  | .bit_7_D => .bitTest 7 .d 8
  | .bit_7_E => .bitTest 7 .e 8
  | .bit_7_H => .bitTest 7 .h 8
  | .bit_7_L => .bitTest 7 .l 8
  | .bit_7_MemHL => .bitTest 7 .mHL 12
  | .bit_7_A => .bitTest 7 .a 8
  | .res_0_B => .bitReset 0 .b 8
  | .res_0_C => .bitReset 0 .c 8
  | .res_0_D => .bitReset 0 .d 8
  | .res_0_E => .bitReset 0 .e 8
  | .res_0_H => .bitReset 0 .h 8
  | .res_0_L => .bitReset 0 .l 8
  | .res_0_MemHL => .bitReset 0 .mHL 16
  | .res_0_A => .bitReset 0 .a 8
  | .res_1_B => .bitReset 1 .b 8
  | .res_1_C => .bitReset 1 .c 8
  | .res_1_D => .bitReset 1 .d 8
  | .res_1_E => .bitReset 1 .e 8
  | .res_1_H => .bitReset 1 .h 8
  | .res_1_L => .bitReset 1 .l 8
  | .res_1_MemHL => .bitReset 1 .mHL 16
  | .res_1_A => .bitReset 1 .a 8
  | .res_2_B => .bitReset 2 .b 8
  | .res_2_C => .bitReset 2 .c 8
  | .res_2_D => .bitReset 2 .d 8
  | .res_2_E => .bitReset 2 .e 8
  | .res_2_H => .bitReset 2 .h 8
  | .res_2_L => .bitReset 2 .l 8
  | .res_2_MemHL => .bitReset 2 .mHL 16
  | .res_2_A => .bitReset 2 .a 8
  | .res_3_B => .bitReset 3 .b 8
  | .res_3_C => .bitReset 3 .c 8
  | .res_3_D => .bitReset 3 .d 8
  | .res_3_E => .bitReset 3 .e 8
  | .res_3_H => .bitReset 3 .h 8
  | .res_3_L => .bitReset 3 .l 8
  | .res_3_MemHL => .bitReset 3 .mHL 16
  | .res_3_A => .bitReset 3 .a 8
  | .res_4_B => .bitReset 4 .b 8
  | .res_4_C => .bitReset 4 .c 8
  | .res_4_D => .bitReset 4 .d 8
  | .res_4_E => .bitReset 4 .e 8
  | .res_4_H => .bitReset 4 .h 8
  | .res_4_L => .bitReset 4 .l 8
  | .res_4_MemHL => .bitReset 4 .mHL 16
  | .res_4_A => .bitReset 4 .a 8
  | .res_5_B => .bitReset 5 .b 8
  | .res_5_C => .bitReset 5 .c 8
  | .res_5_D => .bitReset 5 .d 8
  | .res_5_E => .bitReset 5 .e 8
  | .res_5_H => .bitReset 5 .h 8
  | .res_5_L => .bitReset 5 .l 8
  | .res_5_MemHL => .bitReset 5 .mHL 16
  | .res_5_A => .bitReset 5 .a 8
  | .res_6_B => .bitReset 6 .b 8
  | .res_6_C => .bitReset 6 .c 8
  | .res_6_D => .bitReset 6 .d 8
  | .res_6_E => .bitReset 6 .e 8
  | .res_6_H => .bitReset 6 .h 8
  | .res_6_L => .bitReset 6 .l 8
  | .res_6_MemHL => .bitReset 6 .mHL 16
  | .res_6_A => .bitReset 6 .a 8
  | .res_7_B => .bitReset 7 .b 8
  | .res_7_C => .bitReset 7 .c 8
  | .res_7_D => .bitReset 7 .d 8
  | .res_7_E => .bitReset 7 .e 8
  | .res_7_H => .bitReset 7 .h 8
  | .res_7_L => .bitReset 7 .l 8
  | .res_7_MemHL => .bitReset 7 .mHL 16
  | .res_7_A => .bitReset 7 .a 8
  | .set_0_B => .bitSet 0 .b 8
  | .set_0_C => .bitSet 0 .c 8
  | .set_0_D => .bitSet 0 .d 8
  | .set_0_E => .bitSet 0 .e 8
  | .set_0_H => .bitSet 0 .h 8
  | .set_0_L => .bitSet 0 .l 8
  | .set_0_MemHL => .bitSet 0 .mHL 16
  | .set_0_A => .bitSet 0 .a 8
  | .set_1_B => .bitSet 1 .b 8
  | .set_1_C => .bitSet 1 .c 8
  | .set_1_D => .bitSet 1 .d 8
  | .set_1_E => .bitSet 1 .e 8
  | .set_1_H => .bitSet 1 .h 8
  | .set_1_L => .bitSet 1 .l 8
  | .set_1_MemHL => .bitSet 1 .mHL 16
  | .set_1_A => .bitSet 1 .a 8
  | .set_2_B => .bitSet 2 .b 8
  | .set_2_C => .bitSet 2 .c 8
  | .set_2_D => .bitSet 2 .d 8
  | .set_2_E => .bitSet 2 .e 8
  | .set_2_H => .bitSet 2 .h 8
  | .set_2_L => .bitSet 2 .l 8
  | .set_2_MemHL => .bitSet 2 .mHL 16
  | .set_2_A => .bitSet 2 .a 8
  | .set_3_B => .bitSet 3 .b 8
  | .set_3_C => .bitSet 3 .c 8
  | .set_3_D => .bitSet 3 .d 8
  | .set_3_E => .bitSet 3 .e 8
  | .set_3_H => .bitSet 3 .h 8
  | .set_3_L => .bitSet 3 .l 8
  | .set_3_MemHL => .bitSet 3 .mHL 16
  | .set_3_A => .bitSet 3 .a 8
  | .set_4_B => .bitSet 4 .b 8
  | .set_4_C => .bitSet 4 .c 8
  | .set_4_D => .bitSet 4 .d 8
  | .set_4_E => .bitSet 4 .e 8
  | .set_4_H => .bitSet 4 .h 8
  | .set_4_L => .bitSet 4 .l 8
  | .set_4_MemHL => .bitSet 4 .mHL 16
  | .set_4_A => .bitSet 4 .a 8
  | .set_5_B => .bitSet 5 .b 8
  | .set_5_C => .bitSet 5 .c 8
  | .set_5_D => .bitSet 5 .d 8
  | .set_5_E => .bitSet 5 .e 8
  | .set_5_H => .bitSet 5 .h 8
  | .set_5_L => .bitSet 5 .l 8
  | .set_5_MemHL => .bitSet 5 .mHL 16
  | .set_5_A => .bitSet 5 .a 8
  | .set_6_B => .bitSet 6 .b 8
  | .set_6_C => .bitSet 6 .c 8
  | .set_6_D => .bitSet 6 .d 8
  | .set_6_E => .bitSet 6 .e 8
  | .set_6_H => .bitSet 6 .h 8
  | .set_6_L => .bitSet 6 .l 8
  | .set_6_MemHL => .bitSet 6 .mHL 16
  | .set_6_A => .bitSet 6 .a 8
  | .set_7_B => .bitSet 7 .b 8
  | .set_7_C => .bitSet 7 .c 8
  | .set_7_D => .bitSet 7 .d 8
  | .set_7_E => .bitSet 7 .e 8
  | .set_7_H => .bitSet 7 .h 8
  | .set_7_L => .bitSet 7 .l 8
  | .set_7_MemHL => .bitSet 7 .mHL 16
  | .set_7_A => .bitSet 7 .a 8

end Sys2Proof.Laws
end

