-- ==== Sys2Proof/Tests/Slice0.lean ====
section
/-! SUPPORT. Tests of one decoding or one step each, with results from the spec's encodings (30_encoding.md R140-R152, the
opcode table) and test vectors (95_test_vectors.md), and a witness for the hypotheses of every statement. -/

namespace Sys2Proof.Tests

open Sys2Proof Sys2Proof.Machine

set_option maxRecDepth 20000
set_option Elab.async false

/-! ### Well-formedness -/

/-- The prefix byte alone is no instruction (46 R336). -/
theorem test_wellFormed_refuses_prefix : wellFormed .cbPrefix = false := by decide

theorem test_wellFormed_accepts : wellFormed (.ld_A_n8 0x3C) = true ∧ wellFormed .unused_FD = true := by decide

/-! ### Every constructor's decoding, from its bit pattern in the table (operand bytes: n8 5A, n16 34 12) -/

theorem test_decode_0x : ([
    [0b00000000], [0b00000001, 0x34, 0x12], [0b00000010], [0b00000011], [0b00000100], [0b00000101],
     [0b00000110, 0x5A], [0b00000111], [0b00001000, 0x34, 0x12], [0b00001001], [0b00001010], [0b00001011],
     [0b00001100], [0b00001101], [0b00001110, 0x5A], [0b00001111]].map decode) =
   [
    .ok (.nop, []), .ok (.ld_BC_n16 0x1234, []), .ok (.ld_MemBC_A, []), .ok (.inc_BC, []), .ok (.inc_B, []),
     .ok (.dec_B, []), .ok (.ld_B_n8 0x5A, []), .ok (.rlca, []), .ok (.ld_MemA16_SP 0x1234, []),
     .ok (.add_HL_BC, []), .ok (.ld_A_MemBC, []), .ok (.dec_BC, []), .ok (.inc_C, []), .ok (.dec_C, []),
     .ok (.ld_C_n8 0x5A, []), .ok (.rrca, [])] :=
  rfl

theorem test_decode_1x : ([
    [0b00010000, 0x5A], [0b00010001, 0x34, 0x12], [0b00010010], [0b00010011], [0b00010100], [0b00010101],
     [0b00010110, 0x5A], [0b00010111], [0b00011000, 0x5A], [0b00011001], [0b00011010], [0b00011011],
     [0b00011100], [0b00011101], [0b00011110, 0x5A], [0b00011111]].map decode) =
   [
    .ok (.stop 0x5A, []), .ok (.ld_DE_n16 0x1234, []), .ok (.ld_MemDE_A, []), .ok (.inc_DE, []),
     .ok (.inc_D, []), .ok (.dec_D, []), .ok (.ld_D_n8 0x5A, []), .ok (.rla, []), .ok (.jr_e8 0x5A, []),
     .ok (.add_HL_DE, []), .ok (.ld_A_MemDE, []), .ok (.dec_DE, []), .ok (.inc_E, []), .ok (.dec_E, []),
     .ok (.ld_E_n8 0x5A, []), .ok (.rra, [])] :=
  rfl

theorem test_decode_2x : ([
    [0b00100000, 0x5A], [0b00100001, 0x34, 0x12], [0b00100010], [0b00100011], [0b00100100], [0b00100101],
     [0b00100110, 0x5A], [0b00100111], [0b00101000, 0x5A], [0b00101001], [0b00101010], [0b00101011],
     [0b00101100], [0b00101101], [0b00101110, 0x5A], [0b00101111]].map decode) =
   [
    .ok (.jr_NZ_e8 0x5A, []), .ok (.ld_HL_n16 0x1234, []), .ok (.ld_MemHLInc_A, []), .ok (.inc_HL, []),
     .ok (.inc_H, []), .ok (.dec_H, []), .ok (.ld_H_n8 0x5A, []), .ok (.daa, []), .ok (.jr_Z_e8 0x5A, []),
     .ok (.add_HL_HL, []), .ok (.ld_A_MemHLInc, []), .ok (.dec_HL, []), .ok (.inc_L, []), .ok (.dec_L, []),
     .ok (.ld_L_n8 0x5A, []), .ok (.cpl, [])] :=
  rfl

theorem test_decode_3x : ([
    [0b00110000, 0x5A], [0b00110001, 0x34, 0x12], [0b00110010], [0b00110011], [0b00110100], [0b00110101],
     [0b00110110, 0x5A], [0b00110111], [0b00111000, 0x5A], [0b00111001], [0b00111010], [0b00111011],
     [0b00111100], [0b00111101], [0b00111110, 0x5A], [0b00111111]].map decode) =
   [
    .ok (.jr_NC_e8 0x5A, []), .ok (.ld_SP_n16 0x1234, []), .ok (.ld_MemHLDec_A, []), .ok (.inc_SP, []),
     .ok (.inc_MemHL, []), .ok (.dec_MemHL, []), .ok (.ld_MemHL_n8 0x5A, []), .ok (.scf, []),
     .ok (.jr_C_e8 0x5A, []), .ok (.add_HL_SP, []), .ok (.ld_A_MemHLDec, []), .ok (.dec_SP, []),
     .ok (.inc_A, []), .ok (.dec_A, []), .ok (.ld_A_n8 0x5A, []), .ok (.ccf, [])] :=
  rfl

theorem test_decode_4x : ([
    [0b01000000], [0b01000001], [0b01000010], [0b01000011], [0b01000100], [0b01000101], [0b01000110],
     [0b01000111], [0b01001000], [0b01001001], [0b01001010], [0b01001011], [0b01001100], [0b01001101],
     [0b01001110], [0b01001111]].map decode) =
   [
    .ok (.ld_B_B, []), .ok (.ld_B_C, []), .ok (.ld_B_D, []), .ok (.ld_B_E, []), .ok (.ld_B_H, []),
     .ok (.ld_B_L, []), .ok (.ld_B_MemHL, []), .ok (.ld_B_A, []), .ok (.ld_C_B, []), .ok (.ld_C_C, []),
     .ok (.ld_C_D, []), .ok (.ld_C_E, []), .ok (.ld_C_H, []), .ok (.ld_C_L, []), .ok (.ld_C_MemHL, []),
     .ok (.ld_C_A, [])] :=
  rfl

theorem test_decode_5x : ([
    [0b01010000], [0b01010001], [0b01010010], [0b01010011], [0b01010100], [0b01010101], [0b01010110],
     [0b01010111], [0b01011000], [0b01011001], [0b01011010], [0b01011011], [0b01011100], [0b01011101],
     [0b01011110], [0b01011111]].map decode) =
   [
    .ok (.ld_D_B, []), .ok (.ld_D_C, []), .ok (.ld_D_D, []), .ok (.ld_D_E, []), .ok (.ld_D_H, []),
     .ok (.ld_D_L, []), .ok (.ld_D_MemHL, []), .ok (.ld_D_A, []), .ok (.ld_E_B, []), .ok (.ld_E_C, []),
     .ok (.ld_E_D, []), .ok (.ld_E_E, []), .ok (.ld_E_H, []), .ok (.ld_E_L, []), .ok (.ld_E_MemHL, []),
     .ok (.ld_E_A, [])] :=
  rfl

theorem test_decode_6x : ([
    [0b01100000], [0b01100001], [0b01100010], [0b01100011], [0b01100100], [0b01100101], [0b01100110],
     [0b01100111], [0b01101000], [0b01101001], [0b01101010], [0b01101011], [0b01101100], [0b01101101],
     [0b01101110], [0b01101111]].map decode) =
   [
    .ok (.ld_H_B, []), .ok (.ld_H_C, []), .ok (.ld_H_D, []), .ok (.ld_H_E, []), .ok (.ld_H_H, []),
     .ok (.ld_H_L, []), .ok (.ld_H_MemHL, []), .ok (.ld_H_A, []), .ok (.ld_L_B, []), .ok (.ld_L_C, []),
     .ok (.ld_L_D, []), .ok (.ld_L_E, []), .ok (.ld_L_H, []), .ok (.ld_L_L, []), .ok (.ld_L_MemHL, []),
     .ok (.ld_L_A, [])] :=
  rfl

theorem test_decode_7x : ([
    [0b01110000], [0b01110001], [0b01110010], [0b01110011], [0b01110100], [0b01110101], [0b01110110],
     [0b01110111], [0b01111000], [0b01111001], [0b01111010], [0b01111011], [0b01111100], [0b01111101],
     [0b01111110], [0b01111111]].map decode) =
   [
    .ok (.ld_MemHL_B, []), .ok (.ld_MemHL_C, []), .ok (.ld_MemHL_D, []), .ok (.ld_MemHL_E, []),
     .ok (.ld_MemHL_H, []), .ok (.ld_MemHL_L, []), .ok (.halt, []), .ok (.ld_MemHL_A, []), .ok (.ld_A_B, []),
     .ok (.ld_A_C, []), .ok (.ld_A_D, []), .ok (.ld_A_E, []), .ok (.ld_A_H, []), .ok (.ld_A_L, []),
     .ok (.ld_A_MemHL, []), .ok (.ld_A_A, [])] :=
  rfl

theorem test_decode_8x : ([
    [0b10000000], [0b10000001], [0b10000010], [0b10000011], [0b10000100], [0b10000101], [0b10000110],
     [0b10000111], [0b10001000], [0b10001001], [0b10001010], [0b10001011], [0b10001100], [0b10001101],
     [0b10001110], [0b10001111]].map decode) =
   [
    .ok (.add_A_B, []), .ok (.add_A_C, []), .ok (.add_A_D, []), .ok (.add_A_E, []), .ok (.add_A_H, []),
     .ok (.add_A_L, []), .ok (.add_A_MemHL, []), .ok (.add_A_A, []), .ok (.adc_A_B, []), .ok (.adc_A_C, []),
     .ok (.adc_A_D, []), .ok (.adc_A_E, []), .ok (.adc_A_H, []), .ok (.adc_A_L, []), .ok (.adc_A_MemHL, []),
     .ok (.adc_A_A, [])] :=
  rfl

theorem test_decode_9x : ([
    [0b10010000], [0b10010001], [0b10010010], [0b10010011], [0b10010100], [0b10010101], [0b10010110],
     [0b10010111], [0b10011000], [0b10011001], [0b10011010], [0b10011011], [0b10011100], [0b10011101],
     [0b10011110], [0b10011111]].map decode) =
   [
    .ok (.sub_A_B, []), .ok (.sub_A_C, []), .ok (.sub_A_D, []), .ok (.sub_A_E, []), .ok (.sub_A_H, []),
     .ok (.sub_A_L, []), .ok (.sub_A_MemHL, []), .ok (.sub_A_A, []), .ok (.sbc_A_B, []), .ok (.sbc_A_C, []),
     .ok (.sbc_A_D, []), .ok (.sbc_A_E, []), .ok (.sbc_A_H, []), .ok (.sbc_A_L, []), .ok (.sbc_A_MemHL, []),
     .ok (.sbc_A_A, [])] :=
  rfl

theorem test_decode_Ax : ([
    [0b10100000], [0b10100001], [0b10100010], [0b10100011], [0b10100100], [0b10100101], [0b10100110],
     [0b10100111], [0b10101000], [0b10101001], [0b10101010], [0b10101011], [0b10101100], [0b10101101],
     [0b10101110], [0b10101111]].map decode) =
   [
    .ok (.and_A_B, []), .ok (.and_A_C, []), .ok (.and_A_D, []), .ok (.and_A_E, []), .ok (.and_A_H, []),
     .ok (.and_A_L, []), .ok (.and_A_MemHL, []), .ok (.and_A_A, []), .ok (.xor_A_B, []), .ok (.xor_A_C, []),
     .ok (.xor_A_D, []), .ok (.xor_A_E, []), .ok (.xor_A_H, []), .ok (.xor_A_L, []), .ok (.xor_A_MemHL, []),
     .ok (.xor_A_A, [])] :=
  rfl

theorem test_decode_Bx : ([
    [0b10110000], [0b10110001], [0b10110010], [0b10110011], [0b10110100], [0b10110101], [0b10110110],
     [0b10110111], [0b10111000], [0b10111001], [0b10111010], [0b10111011], [0b10111100], [0b10111101],
     [0b10111110], [0b10111111]].map decode) =
   [
    .ok (.or_A_B, []), .ok (.or_A_C, []), .ok (.or_A_D, []), .ok (.or_A_E, []), .ok (.or_A_H, []),
     .ok (.or_A_L, []), .ok (.or_A_MemHL, []), .ok (.or_A_A, []), .ok (.cp_A_B, []), .ok (.cp_A_C, []),
     .ok (.cp_A_D, []), .ok (.cp_A_E, []), .ok (.cp_A_H, []), .ok (.cp_A_L, []), .ok (.cp_A_MemHL, []),
     .ok (.cp_A_A, [])] :=
  rfl

theorem test_decode_Cx : ([
    [0b11000000], [0b11000001], [0b11000010, 0x34, 0x12], [0b11000011, 0x34, 0x12], [0b11000100, 0x34, 0x12],
     [0b11000101], [0b11000110, 0x5A], [0b11000111], [0b11001000], [0b11001001], [0b11001010, 0x34, 0x12],
     [0b11001100, 0x34, 0x12], [0b11001101, 0x34, 0x12], [0b11001110, 0x5A], [0b11001111]].map decode) =
   [
    .ok (.ret_NZ, []), .ok (.pop_BC, []), .ok (.jp_NZ_a16 0x1234, []), .ok (.jp_a16 0x1234, []),
     .ok (.call_NZ_a16 0x1234, []), .ok (.push_BC, []), .ok (.add_A_n8 0x5A, []), .ok (.rst_00, []),
     .ok (.ret_Z, []), .ok (.ret, []), .ok (.jp_Z_a16 0x1234, []), .ok (.call_Z_a16 0x1234, []),
     .ok (.call_a16 0x1234, []), .ok (.adc_A_n8 0x5A, []), .ok (.rst_08, [])] :=
  rfl

theorem test_decode_Dx : ([
    [0b11010000], [0b11010001], [0b11010010, 0x34, 0x12], [0b11010011], [0b11010100, 0x34, 0x12], [0b11010101],
     [0b11010110, 0x5A], [0b11010111], [0b11011000], [0b11011001], [0b11011010, 0x34, 0x12], [0b11011011],
     [0b11011100, 0x34, 0x12], [0b11011101], [0b11011110, 0x5A], [0b11011111]].map decode) =
   [
    .ok (.ret_NC, []), .ok (.pop_DE, []), .ok (.jp_NC_a16 0x1234, []), .ok (.unused_D3, []),
     .ok (.call_NC_a16 0x1234, []), .ok (.push_DE, []), .ok (.sub_A_n8 0x5A, []), .ok (.rst_10, []),
     .ok (.ret_C, []), .ok (.reti, []), .ok (.jp_C_a16 0x1234, []), .ok (.unused_DB, []),
     .ok (.call_C_a16 0x1234, []), .ok (.unused_DD, []), .ok (.sbc_A_n8 0x5A, []), .ok (.rst_18, [])] :=
  rfl

theorem test_decode_Ex : ([
    [0b11100000, 0x5A], [0b11100001], [0b11100010], [0b11100011], [0b11100100], [0b11100101],
     [0b11100110, 0x5A], [0b11100111], [0b11101000, 0x5A], [0b11101001], [0b11101010, 0x34, 0x12],
     [0b11101011], [0b11101100], [0b11101101], [0b11101110, 0x5A], [0b11101111]].map decode) =
   [
    .ok (.ldh_MemA8_A 0x5A, []), .ok (.pop_HL, []), .ok (.ld_MemC_A, []), .ok (.unused_E3, []),
     .ok (.unused_E4, []), .ok (.push_HL, []), .ok (.and_A_n8 0x5A, []), .ok (.rst_20, []),
     .ok (.add_SP_e8 0x5A, []), .ok (.jp_HL, []), .ok (.ld_MemA16_A 0x1234, []), .ok (.unused_EB, []),
     .ok (.unused_EC, []), .ok (.unused_ED, []), .ok (.xor_A_n8 0x5A, []), .ok (.rst_28, [])] :=
  rfl

theorem test_decode_Fx : ([
    [0b11110000, 0x5A], [0b11110001], [0b11110010], [0b11110011], [0b11110100], [0b11110101],
     [0b11110110, 0x5A], [0b11110111], [0b11111000, 0x5A], [0b11111001], [0b11111010, 0x34, 0x12],
     [0b11111011], [0b11111100], [0b11111101], [0b11111110, 0x5A], [0b11111111]].map decode) =
   [
    .ok (.ldh_A_MemA8 0x5A, []), .ok (.pop_AF, []), .ok (.ld_A_MemC, []), .ok (.di, []), .ok (.unused_F4, []),
     .ok (.push_AF, []), .ok (.or_A_n8 0x5A, []), .ok (.rst_30, []), .ok (.ld_HL_SPe8 0x5A, []),
     .ok (.ld_SP_HL, []), .ok (.ld_A_MemA16 0x1234, []), .ok (.ei, []), .ok (.unused_FC, []),
     .ok (.unused_FD, []), .ok (.cp_A_n8 0x5A, []), .ok (.rst_38, [])] :=
  rfl

theorem test_decode_CB_0x : ([
    [0b11001011, 0b00000000], [0b11001011, 0b00000001], [0b11001011, 0b00000010], [0b11001011, 0b00000011],
     [0b11001011, 0b00000100], [0b11001011, 0b00000101], [0b11001011, 0b00000110], [0b11001011, 0b00000111],
     [0b11001011, 0b00001000], [0b11001011, 0b00001001], [0b11001011, 0b00001010], [0b11001011, 0b00001011],
     [0b11001011, 0b00001100], [0b11001011, 0b00001101], [0b11001011, 0b00001110], [0b11001011, 0b00001111]].map decode) =
   [
    .ok (.rlc_B, []), .ok (.rlc_C, []), .ok (.rlc_D, []), .ok (.rlc_E, []), .ok (.rlc_H, []), .ok (.rlc_L, []),
     .ok (.rlc_MemHL, []), .ok (.rlc_A, []), .ok (.rrc_B, []), .ok (.rrc_C, []), .ok (.rrc_D, []),
     .ok (.rrc_E, []), .ok (.rrc_H, []), .ok (.rrc_L, []), .ok (.rrc_MemHL, []), .ok (.rrc_A, [])] :=
  rfl

theorem test_decode_CB_1x : ([
    [0b11001011, 0b00010000], [0b11001011, 0b00010001], [0b11001011, 0b00010010], [0b11001011, 0b00010011],
     [0b11001011, 0b00010100], [0b11001011, 0b00010101], [0b11001011, 0b00010110], [0b11001011, 0b00010111],
     [0b11001011, 0b00011000], [0b11001011, 0b00011001], [0b11001011, 0b00011010], [0b11001011, 0b00011011],
     [0b11001011, 0b00011100], [0b11001011, 0b00011101], [0b11001011, 0b00011110], [0b11001011, 0b00011111]].map decode) =
   [
    .ok (.rl_B, []), .ok (.rl_C, []), .ok (.rl_D, []), .ok (.rl_E, []), .ok (.rl_H, []), .ok (.rl_L, []),
     .ok (.rl_MemHL, []), .ok (.rl_A, []), .ok (.rr_B, []), .ok (.rr_C, []), .ok (.rr_D, []), .ok (.rr_E, []),
     .ok (.rr_H, []), .ok (.rr_L, []), .ok (.rr_MemHL, []), .ok (.rr_A, [])] :=
  rfl

theorem test_decode_CB_2x : ([
    [0b11001011, 0b00100000], [0b11001011, 0b00100001], [0b11001011, 0b00100010], [0b11001011, 0b00100011],
     [0b11001011, 0b00100100], [0b11001011, 0b00100101], [0b11001011, 0b00100110], [0b11001011, 0b00100111],
     [0b11001011, 0b00101000], [0b11001011, 0b00101001], [0b11001011, 0b00101010], [0b11001011, 0b00101011],
     [0b11001011, 0b00101100], [0b11001011, 0b00101101], [0b11001011, 0b00101110], [0b11001011, 0b00101111]].map decode) =
   [
    .ok (.sla_B, []), .ok (.sla_C, []), .ok (.sla_D, []), .ok (.sla_E, []), .ok (.sla_H, []), .ok (.sla_L, []),
     .ok (.sla_MemHL, []), .ok (.sla_A, []), .ok (.sra_B, []), .ok (.sra_C, []), .ok (.sra_D, []),
     .ok (.sra_E, []), .ok (.sra_H, []), .ok (.sra_L, []), .ok (.sra_MemHL, []), .ok (.sra_A, [])] :=
  rfl

theorem test_decode_CB_3x : ([
    [0b11001011, 0b00110000], [0b11001011, 0b00110001], [0b11001011, 0b00110010], [0b11001011, 0b00110011],
     [0b11001011, 0b00110100], [0b11001011, 0b00110101], [0b11001011, 0b00110110], [0b11001011, 0b00110111],
     [0b11001011, 0b00111000], [0b11001011, 0b00111001], [0b11001011, 0b00111010], [0b11001011, 0b00111011],
     [0b11001011, 0b00111100], [0b11001011, 0b00111101], [0b11001011, 0b00111110], [0b11001011, 0b00111111]].map decode) =
   [
    .ok (.swap_B, []), .ok (.swap_C, []), .ok (.swap_D, []), .ok (.swap_E, []), .ok (.swap_H, []),
     .ok (.swap_L, []), .ok (.swap_MemHL, []), .ok (.swap_A, []), .ok (.srl_B, []), .ok (.srl_C, []),
     .ok (.srl_D, []), .ok (.srl_E, []), .ok (.srl_H, []), .ok (.srl_L, []), .ok (.srl_MemHL, []),
     .ok (.srl_A, [])] :=
  rfl

theorem test_decode_CB_4x : ([
    [0b11001011, 0b01000000], [0b11001011, 0b01000001], [0b11001011, 0b01000010], [0b11001011, 0b01000011],
     [0b11001011, 0b01000100], [0b11001011, 0b01000101], [0b11001011, 0b01000110], [0b11001011, 0b01000111],
     [0b11001011, 0b01001000], [0b11001011, 0b01001001], [0b11001011, 0b01001010], [0b11001011, 0b01001011],
     [0b11001011, 0b01001100], [0b11001011, 0b01001101], [0b11001011, 0b01001110], [0b11001011, 0b01001111]].map decode) =
   [
    .ok (.bit_0_B, []), .ok (.bit_0_C, []), .ok (.bit_0_D, []), .ok (.bit_0_E, []), .ok (.bit_0_H, []),
     .ok (.bit_0_L, []), .ok (.bit_0_MemHL, []), .ok (.bit_0_A, []), .ok (.bit_1_B, []), .ok (.bit_1_C, []),
     .ok (.bit_1_D, []), .ok (.bit_1_E, []), .ok (.bit_1_H, []), .ok (.bit_1_L, []), .ok (.bit_1_MemHL, []),
     .ok (.bit_1_A, [])] :=
  rfl

theorem test_decode_CB_5x : ([
    [0b11001011, 0b01010000], [0b11001011, 0b01010001], [0b11001011, 0b01010010], [0b11001011, 0b01010011],
     [0b11001011, 0b01010100], [0b11001011, 0b01010101], [0b11001011, 0b01010110], [0b11001011, 0b01010111],
     [0b11001011, 0b01011000], [0b11001011, 0b01011001], [0b11001011, 0b01011010], [0b11001011, 0b01011011],
     [0b11001011, 0b01011100], [0b11001011, 0b01011101], [0b11001011, 0b01011110], [0b11001011, 0b01011111]].map decode) =
   [
    .ok (.bit_2_B, []), .ok (.bit_2_C, []), .ok (.bit_2_D, []), .ok (.bit_2_E, []), .ok (.bit_2_H, []),
     .ok (.bit_2_L, []), .ok (.bit_2_MemHL, []), .ok (.bit_2_A, []), .ok (.bit_3_B, []), .ok (.bit_3_C, []),
     .ok (.bit_3_D, []), .ok (.bit_3_E, []), .ok (.bit_3_H, []), .ok (.bit_3_L, []), .ok (.bit_3_MemHL, []),
     .ok (.bit_3_A, [])] :=
  rfl

theorem test_decode_CB_6x : ([
    [0b11001011, 0b01100000], [0b11001011, 0b01100001], [0b11001011, 0b01100010], [0b11001011, 0b01100011],
     [0b11001011, 0b01100100], [0b11001011, 0b01100101], [0b11001011, 0b01100110], [0b11001011, 0b01100111],
     [0b11001011, 0b01101000], [0b11001011, 0b01101001], [0b11001011, 0b01101010], [0b11001011, 0b01101011],
     [0b11001011, 0b01101100], [0b11001011, 0b01101101], [0b11001011, 0b01101110], [0b11001011, 0b01101111]].map decode) =
   [
    .ok (.bit_4_B, []), .ok (.bit_4_C, []), .ok (.bit_4_D, []), .ok (.bit_4_E, []), .ok (.bit_4_H, []),
     .ok (.bit_4_L, []), .ok (.bit_4_MemHL, []), .ok (.bit_4_A, []), .ok (.bit_5_B, []), .ok (.bit_5_C, []),
     .ok (.bit_5_D, []), .ok (.bit_5_E, []), .ok (.bit_5_H, []), .ok (.bit_5_L, []), .ok (.bit_5_MemHL, []),
     .ok (.bit_5_A, [])] :=
  rfl

theorem test_decode_CB_7x : ([
    [0b11001011, 0b01110000], [0b11001011, 0b01110001], [0b11001011, 0b01110010], [0b11001011, 0b01110011],
     [0b11001011, 0b01110100], [0b11001011, 0b01110101], [0b11001011, 0b01110110], [0b11001011, 0b01110111],
     [0b11001011, 0b01111000], [0b11001011, 0b01111001], [0b11001011, 0b01111010], [0b11001011, 0b01111011],
     [0b11001011, 0b01111100], [0b11001011, 0b01111101], [0b11001011, 0b01111110], [0b11001011, 0b01111111]].map decode) =
   [
    .ok (.bit_6_B, []), .ok (.bit_6_C, []), .ok (.bit_6_D, []), .ok (.bit_6_E, []), .ok (.bit_6_H, []),
     .ok (.bit_6_L, []), .ok (.bit_6_MemHL, []), .ok (.bit_6_A, []), .ok (.bit_7_B, []), .ok (.bit_7_C, []),
     .ok (.bit_7_D, []), .ok (.bit_7_E, []), .ok (.bit_7_H, []), .ok (.bit_7_L, []), .ok (.bit_7_MemHL, []),
     .ok (.bit_7_A, [])] :=
  rfl

theorem test_decode_CB_8x : ([
    [0b11001011, 0b10000000], [0b11001011, 0b10000001], [0b11001011, 0b10000010], [0b11001011, 0b10000011],
     [0b11001011, 0b10000100], [0b11001011, 0b10000101], [0b11001011, 0b10000110], [0b11001011, 0b10000111],
     [0b11001011, 0b10001000], [0b11001011, 0b10001001], [0b11001011, 0b10001010], [0b11001011, 0b10001011],
     [0b11001011, 0b10001100], [0b11001011, 0b10001101], [0b11001011, 0b10001110], [0b11001011, 0b10001111]].map decode) =
   [
    .ok (.res_0_B, []), .ok (.res_0_C, []), .ok (.res_0_D, []), .ok (.res_0_E, []), .ok (.res_0_H, []),
     .ok (.res_0_L, []), .ok (.res_0_MemHL, []), .ok (.res_0_A, []), .ok (.res_1_B, []), .ok (.res_1_C, []),
     .ok (.res_1_D, []), .ok (.res_1_E, []), .ok (.res_1_H, []), .ok (.res_1_L, []), .ok (.res_1_MemHL, []),
     .ok (.res_1_A, [])] :=
  rfl

theorem test_decode_CB_9x : ([
    [0b11001011, 0b10010000], [0b11001011, 0b10010001], [0b11001011, 0b10010010], [0b11001011, 0b10010011],
     [0b11001011, 0b10010100], [0b11001011, 0b10010101], [0b11001011, 0b10010110], [0b11001011, 0b10010111],
     [0b11001011, 0b10011000], [0b11001011, 0b10011001], [0b11001011, 0b10011010], [0b11001011, 0b10011011],
     [0b11001011, 0b10011100], [0b11001011, 0b10011101], [0b11001011, 0b10011110], [0b11001011, 0b10011111]].map decode) =
   [
    .ok (.res_2_B, []), .ok (.res_2_C, []), .ok (.res_2_D, []), .ok (.res_2_E, []), .ok (.res_2_H, []),
     .ok (.res_2_L, []), .ok (.res_2_MemHL, []), .ok (.res_2_A, []), .ok (.res_3_B, []), .ok (.res_3_C, []),
     .ok (.res_3_D, []), .ok (.res_3_E, []), .ok (.res_3_H, []), .ok (.res_3_L, []), .ok (.res_3_MemHL, []),
     .ok (.res_3_A, [])] :=
  rfl

theorem test_decode_CB_Ax : ([
    [0b11001011, 0b10100000], [0b11001011, 0b10100001], [0b11001011, 0b10100010], [0b11001011, 0b10100011],
     [0b11001011, 0b10100100], [0b11001011, 0b10100101], [0b11001011, 0b10100110], [0b11001011, 0b10100111],
     [0b11001011, 0b10101000], [0b11001011, 0b10101001], [0b11001011, 0b10101010], [0b11001011, 0b10101011],
     [0b11001011, 0b10101100], [0b11001011, 0b10101101], [0b11001011, 0b10101110], [0b11001011, 0b10101111]].map decode) =
   [
    .ok (.res_4_B, []), .ok (.res_4_C, []), .ok (.res_4_D, []), .ok (.res_4_E, []), .ok (.res_4_H, []),
     .ok (.res_4_L, []), .ok (.res_4_MemHL, []), .ok (.res_4_A, []), .ok (.res_5_B, []), .ok (.res_5_C, []),
     .ok (.res_5_D, []), .ok (.res_5_E, []), .ok (.res_5_H, []), .ok (.res_5_L, []), .ok (.res_5_MemHL, []),
     .ok (.res_5_A, [])] :=
  rfl

theorem test_decode_CB_Bx : ([
    [0b11001011, 0b10110000], [0b11001011, 0b10110001], [0b11001011, 0b10110010], [0b11001011, 0b10110011],
     [0b11001011, 0b10110100], [0b11001011, 0b10110101], [0b11001011, 0b10110110], [0b11001011, 0b10110111],
     [0b11001011, 0b10111000], [0b11001011, 0b10111001], [0b11001011, 0b10111010], [0b11001011, 0b10111011],
     [0b11001011, 0b10111100], [0b11001011, 0b10111101], [0b11001011, 0b10111110], [0b11001011, 0b10111111]].map decode) =
   [
    .ok (.res_6_B, []), .ok (.res_6_C, []), .ok (.res_6_D, []), .ok (.res_6_E, []), .ok (.res_6_H, []),
     .ok (.res_6_L, []), .ok (.res_6_MemHL, []), .ok (.res_6_A, []), .ok (.res_7_B, []), .ok (.res_7_C, []),
     .ok (.res_7_D, []), .ok (.res_7_E, []), .ok (.res_7_H, []), .ok (.res_7_L, []), .ok (.res_7_MemHL, []),
     .ok (.res_7_A, [])] :=
  rfl

theorem test_decode_CB_Cx : ([
    [0b11001011, 0b11000000], [0b11001011, 0b11000001], [0b11001011, 0b11000010], [0b11001011, 0b11000011],
     [0b11001011, 0b11000100], [0b11001011, 0b11000101], [0b11001011, 0b11000110], [0b11001011, 0b11000111],
     [0b11001011, 0b11001000], [0b11001011, 0b11001001], [0b11001011, 0b11001010], [0b11001011, 0b11001011],
     [0b11001011, 0b11001100], [0b11001011, 0b11001101], [0b11001011, 0b11001110], [0b11001011, 0b11001111]].map decode) =
   [
    .ok (.set_0_B, []), .ok (.set_0_C, []), .ok (.set_0_D, []), .ok (.set_0_E, []), .ok (.set_0_H, []),
     .ok (.set_0_L, []), .ok (.set_0_MemHL, []), .ok (.set_0_A, []), .ok (.set_1_B, []), .ok (.set_1_C, []),
     .ok (.set_1_D, []), .ok (.set_1_E, []), .ok (.set_1_H, []), .ok (.set_1_L, []), .ok (.set_1_MemHL, []),
     .ok (.set_1_A, [])] :=
  rfl

theorem test_decode_CB_Dx : ([
    [0b11001011, 0b11010000], [0b11001011, 0b11010001], [0b11001011, 0b11010010], [0b11001011, 0b11010011],
     [0b11001011, 0b11010100], [0b11001011, 0b11010101], [0b11001011, 0b11010110], [0b11001011, 0b11010111],
     [0b11001011, 0b11011000], [0b11001011, 0b11011001], [0b11001011, 0b11011010], [0b11001011, 0b11011011],
     [0b11001011, 0b11011100], [0b11001011, 0b11011101], [0b11001011, 0b11011110], [0b11001011, 0b11011111]].map decode) =
   [
    .ok (.set_2_B, []), .ok (.set_2_C, []), .ok (.set_2_D, []), .ok (.set_2_E, []), .ok (.set_2_H, []),
     .ok (.set_2_L, []), .ok (.set_2_MemHL, []), .ok (.set_2_A, []), .ok (.set_3_B, []), .ok (.set_3_C, []),
     .ok (.set_3_D, []), .ok (.set_3_E, []), .ok (.set_3_H, []), .ok (.set_3_L, []), .ok (.set_3_MemHL, []),
     .ok (.set_3_A, [])] :=
  rfl

theorem test_decode_CB_Ex : ([
    [0b11001011, 0b11100000], [0b11001011, 0b11100001], [0b11001011, 0b11100010], [0b11001011, 0b11100011],
     [0b11001011, 0b11100100], [0b11001011, 0b11100101], [0b11001011, 0b11100110], [0b11001011, 0b11100111],
     [0b11001011, 0b11101000], [0b11001011, 0b11101001], [0b11001011, 0b11101010], [0b11001011, 0b11101011],
     [0b11001011, 0b11101100], [0b11001011, 0b11101101], [0b11001011, 0b11101110], [0b11001011, 0b11101111]].map decode) =
   [
    .ok (.set_4_B, []), .ok (.set_4_C, []), .ok (.set_4_D, []), .ok (.set_4_E, []), .ok (.set_4_H, []),
     .ok (.set_4_L, []), .ok (.set_4_MemHL, []), .ok (.set_4_A, []), .ok (.set_5_B, []), .ok (.set_5_C, []),
     .ok (.set_5_D, []), .ok (.set_5_E, []), .ok (.set_5_H, []), .ok (.set_5_L, []), .ok (.set_5_MemHL, []),
     .ok (.set_5_A, [])] :=
  rfl

theorem test_decode_CB_Fx : ([
    [0b11001011, 0b11110000], [0b11001011, 0b11110001], [0b11001011, 0b11110010], [0b11001011, 0b11110011],
     [0b11001011, 0b11110100], [0b11001011, 0b11110101], [0b11001011, 0b11110110], [0b11001011, 0b11110111],
     [0b11001011, 0b11111000], [0b11001011, 0b11111001], [0b11001011, 0b11111010], [0b11001011, 0b11111011],
     [0b11001011, 0b11111100], [0b11001011, 0b11111101], [0b11001011, 0b11111110], [0b11001011, 0b11111111]].map decode) =
   [
    .ok (.set_6_B, []), .ok (.set_6_C, []), .ok (.set_6_D, []), .ok (.set_6_E, []), .ok (.set_6_H, []),
     .ok (.set_6_L, []), .ok (.set_6_MemHL, []), .ok (.set_6_A, []), .ok (.set_7_B, []), .ok (.set_7_C, []),
     .ok (.set_7_D, []), .ok (.set_7_E, []), .ok (.set_7_H, []), .ok (.set_7_L, []), .ok (.set_7_MemHL, []),
     .ok (.set_7_A, [])] :=
  rfl

/-- No byte, and a text that ends inside the instruction, are refused by name. -/
theorem test_decode_refuses : decode [] = .error .noOpcode ∧ decode [0x3E] = .error .truncated ∧
    decode [0xC3, 0x00] = .error .truncated ∧ decode [0xCB] = .error .truncated := ⟨rfl, rfl, rfl, rfl⟩

/-- Words of spec/opcode_table.json: LD B,C; RLC L, whose bits 15:8 are the prefix; JP a16 with a zero operand (log 5). -/
theorem test_tableWord : decodeTableWord 8 0x41 = some .ld_B_C ∧ decodeTableWord 16 0xCB05 = some .rlc_L ∧
    decodeTableWord 8 0xC3 = some (.jp_a16 0) := ⟨rfl, rfl, rfl⟩

/-! ### One step each, from the vectors of 95_test_vectors.md (instruction bytes at 0x0100, the other start values as given) -/

/-- State.reset with bytes at 0x0100. -/
def boot (bs : List Byte) : State := State.reset.placeBytes 0x0100 bs

/-- The state after a step; a step that stops shows as an impossible cycle count. -/
def after (s : State) : State :=
  match step s with
  | .next t => t
  | .fault _ => { s with cycles := 999999 }
  | .refused _ => { s with cycles := 999999 }

/-- V40.01, LD B,C. -/
theorem test_V40_01 : (let t := after ((boot [0x41]).setC 0x5A)
    t.cycles == 4 && t.b == 0x5A && t.pc == 0x101) = true :=
  by decide +kernel

/-- V40.02, LD H,H (same reg). -/
theorem test_V40_02 : (let t := after ((boot [0x64]).setH 0x12)
    t.cycles == 4 && t.h == 0x12 && t.pc == 0x101) = true :=
  by decide +kernel

/-- V40.03, LD E,n8. -/
theorem test_V40_03 : (let t := after (boot [0x1E, 0x80])
    t.cycles == 8 && t.e == 0x80 && t.pc == 0x102 && t.f == 0x80) = true :=
  by decide +kernel

/-- V40.04, LD A,(HL). -/
theorem test_V40_04 : (let t := after (((boot [0x7E]).setHl 0xC000).busWrite 0xC000 0x99)
    t.cycles == 8 && t.a == 0x99) = true :=
  by decide +kernel

/-- V40.05, LD H,(HL) overwrites its own address. -/
theorem test_V40_05 : (let t := after (((boot [0x66]).setHl 0xC000).busWrite 0xC000 0x12)
    t.cycles == 8 && t.hl == 0x1200) = true :=
  by decide +kernel

/-- V40.06, LD (HL),n8. -/
theorem test_V40_06 : (let t := after ((boot [0x36, 0x42]).setHl 0xC005)
    t.cycles == 12 && t.pc == 0x102 && (t.busRead 0xC005) == 0x42) = true :=
  by decide +kernel

/-- V40.07, LD (BC),A. -/
theorem test_V40_07 : (let t := after (((boot [0x02]).setA 0x77).setBc 0xC001)
    t.cycles == 8 && (t.busRead 0xC001) == 0x77) = true :=
  by decide +kernel

/-- V40.08, LD A,(DE). -/
theorem test_V40_08 : (let t := after (((boot [0x1A]).setDe 0xC002).busWrite 0xC002 0x3C)
    t.cycles == 8 && t.a == 0x3C) = true :=
  by decide +kernel

/-- V40.09, LD (HL+),A at HL=FFFF (writes IE, HL wraps). -/
theorem test_V40_09 : (let t := after (((boot [0x22]).setA 0x1F).setHl 0xFFFF)
    t.cycles == 8 && t.hl == 0 && t.ie == 0x1F) = true :=
  by decide +kernel

/-- V40.10, LD A,(HL-) at HL=C000. -/
theorem test_V40_10 : (let t := after (((boot [0x3A]).setHl 0xC000).busWrite 0xC000 0x5D)
    t.cycles == 8 && t.a == 0x5D && t.hl == 0xBFFF) = true :=
  by decide +kernel

/-- V40.11, LD (HL-),A. -/
theorem test_V40_11 : (let t := after (((boot [0x32]).setA 1).setHl 0xC010)
    t.cycles == 8 && t.hl == 0xC00F && (t.busRead 0xC010) == 1) = true :=
  by decide +kernel

/-- V40.12, LD A,(HL+). -/
theorem test_V40_12 : (let t := after (((boot [0x2A]).setHl 0xC003).busWrite 0xC003 0xEE)
    t.cycles == 8 && t.a == 0xEE && t.hl == 0xC004) = true :=
  by decide +kernel

/-- V40.13, LD (a16),A. -/
theorem test_V40_13 : (let t := after ((boot [0xEA, 0x34, 0xC1]).setA 0xAB)
    t.cycles == 16 && t.pc == 0x103 && (t.busRead 0xC134) == 0xAB) = true :=
  by decide +kernel

/-- V40.14, LD A,(a16) via echo. -/
theorem test_V40_14 : (let t := after ((boot [0xFA, 0x00, 0xE0]).busWrite 0xC000 0x6E)
    t.cycles == 16 && t.a == 0x6E) = true :=
  by decide +kernel

/-- V40.15, LDH (a8),A to HRAM. -/
theorem test_V40_15 : (let t := after ((boot [0xE0, 0x80]).setA 0x5C)
    t.cycles == 12 && (t.busRead 0xFF80) == 0x5C) = true :=
  by decide +kernel

/-- V40.16, LDH A,(0x00): P1 at reset (both groups selected), no key pressed. -/
theorem test_V40_16 : (let t := after (boot [0xF0, 0x00])
    t.cycles == 12 && t.a == 0xCF) = true :=
  by decide +kernel

/-- V40.17, LD (C),A to HRAM. -/
theorem test_V40_17 : (let t := after (((boot [0xE2]).setA 0x11).setC 0x90)
    t.cycles == 8 && (t.busRead 0xFF90) == 0x11) = true :=
  by decide +kernel

/-- V40.18, LD A,(C) IF. -/
theorem test_V40_18 : (let t := after ((boot [0xF2]).setC 0xF)
    t.cycles == 8 && t.a == 0xE1) = true :=
  by decide +kernel

/-- V41.01, LD BC,n16. -/
theorem test_V41_01 : (let t := after (boot [0x01, 0x34, 0x12])
    t.cycles == 12 && t.bc == 0x1234 && t.pc == 0x103) = true :=
  by decide +kernel

/-- V41.02, LD SP,n16. -/
theorem test_V41_02 : (let t := after (boot [0x31, 0xFE, 0xDF])
    t.cycles == 12 && t.sp == 0xDFFE) = true :=
  by decide +kernel

/-- V41.03, LD (a16),SP. -/
theorem test_V41_03 : (let t := after ((boot [0x08, 0x00, 0xC0]).setSp 0xBEEF)
    t.cycles == 20 && (t.busRead 0xC000) == 0xEF && (t.busRead 0xC001) == 0xBE) = true :=
  by decide +kernel

/-- V41.04, LD SP,HL. -/
theorem test_V41_04 : (let t := after ((boot [0xF9]).setHl 0xD123)
    t.cycles == 8 && t.sp == 0xD123) = true :=
  by decide +kernel

/-- V41.05, PUSH BC. -/
theorem test_V41_05 : (let t := after (((boot [0xC5]).setBc 0x1234).setSp 0xD000)
    t.cycles == 16 && t.sp == 0xCFFE && (t.busRead 0xCFFF) == 0x12 && (t.busRead 0xCFFE) == 0x34) = true :=
  by decide +kernel

/-- V41.06, POP DE. -/
theorem test_V41_06 : (let t := after ((((boot [0xD1]).setSp 0xCFFE).busWrite 0xCFFE 0x34).busWrite 0xCFFF 0x12)
    t.cycles == 12 && t.de == 0x1234 && t.sp == 0xD000) = true :=
  by decide +kernel

/-- V41.07, POP AF masks F. -/
theorem test_V41_07 : (let t := after ((((boot [0xF1]).setSp 0xCFFE).busWrite 0xCFFE 0xFF).busWrite 0xCFFF 0x12)
    t.cycles == 12 && t.a == 0x12 && t.f == 0xF0 && t.sp == 0xD000) = true :=
  by decide +kernel

/-- V41.08, PUSH AF. -/
theorem test_V41_08 : (let t := after (((boot [0xF5]).setAf 0x12B0).setSp 0xD000)
    t.cycles == 16 && t.sp == 0xCFFE && (t.busRead 0xCFFF) == 0x12 && (t.busRead 0xCFFE) == 0xB0) = true :=
  by decide +kernel

/-- V41.09, LD HL,SP+1 (low byte FF). -/
theorem test_V41_09 : (let t := after ((boot [0xF8, 0x01]).setSp 0xFF)
    t.cycles == 12 && t.hl == 0x100 && t.f == 0x30) = true :=
  by decide +kernel

/-- V41.11, LD HL,SP-1 at SP=0001. -/
theorem test_V41_11 : (let t := after ((boot [0xF8, 0xFF]).setSp 1)
    t.cycles == 12 && t.hl == 0 && t.f == 0x30) = true :=
  by decide +kernel

/-- V41.12, PUSH at SP=0001 wraps. -/
theorem test_V41_12 : (let t := after (((boot [0xD5]).setDe 0xABCD).setSp 1)
    t.cycles == 16 && t.sp == 0xFFFF) = true :=
  by decide +kernel

/-- V42.01, ADD A,B (§8). -/
theorem test_V42_01 : (let t := after (((boot [0x80]).setA 0x3C).setB 0xC6)
    t.cycles == 4 && t.a == 2 && t.f == 0x30) = true :=
  by decide +kernel

/-- V42.02, ADD A,n8 half only. -/
theorem test_V42_02 : (let t := after ((boot [0xC6, 0x01]).setA 0xF)
    t.cycles == 8 && t.a == 0x10 && t.f == 0x20) = true :=
  by decide +kernel

/-- V42.03, ADD A,A. -/
theorem test_V42_03 : (let t := after ((boot [0x87]).setA 0x80)
    t.cycles == 4 && t.a == 0 && t.f == 0x90) = true :=
  by decide +kernel

/-- V42.04, ADC A,C with carry. -/
theorem test_V42_04 : (let t := after ((((boot [0x89]).setA 0xE).setC 1).setF 0x10)
    t.cycles == 4 && t.a == 0x10 && t.f == 0x20) = true :=
  by decide +kernel

/-- V42.05, ADC A,n8 FF+00+1. -/
theorem test_V42_05 : (let t := after (((boot [0xCE, 0x00]).setA 0xFF).setF 0x10)
    t.cycles == 8 && t.a == 0 && t.f == 0xB0) = true :=
  by decide +kernel

/-- V42.06, SUB B equal. -/
theorem test_V42_06 : (let t := after (((boot [0x90]).setA 0x42).setB 0x42)
    t.cycles == 4 && t.a == 0 && t.f == 0xC0) = true :=
  by decide +kernel

/-- V42.07, SUB n8 borrow. -/
theorem test_V42_07 : (let t := after ((boot [0xD6, 0x01]).setA 0)
    t.cycles == 8 && t.a == 0xFF && t.f == 0x70) = true :=
  by decide +kernel

/-- V42.08, SUB A,A. -/
theorem test_V42_08 : (let t := after (((boot [0x97]).setA 0x37).setF 0)
    t.cycles == 4 && t.a == 0 && t.f == 0xC0) = true :=
  by decide +kernel

/-- V42.09, SBC A,B 00-00-1. -/
theorem test_V42_09 : (let t := after ((((boot [0x98]).setA 0).setB 0).setF 0x10)
    t.cycles == 4 && t.a == 0xFF && t.f == 0x70) = true :=
  by decide +kernel

/-- V42.10, SBC A,n8 10-0F-1. -/
theorem test_V42_10 : (let t := after (((boot [0xDE, 0x0F]).setA 0x10).setF 0x10)
    t.cycles == 8 && t.a == 0 && t.f == 0xE0) = true :=
  by decide +kernel

/-- V42.11, AND (HL). -/
theorem test_V42_11 : (let t := after ((((boot [0xA6]).setA 0xF0).setHl 0xC000).busWrite 0xC000 0xF)
    t.cycles == 8 && t.a == 0 && t.f == 0xA0) = true :=
  by decide +kernel

/-- V42.12, AND n8. -/
theorem test_V42_12 : (let t := after (((boot [0xE6, 0x3C]).setA 0xFF).setF 0x50)
    t.cycles == 8 && t.a == 0x3C && t.f == 0x20) = true :=
  by decide +kernel

/-- V42.13, XOR A. -/
theorem test_V42_13 : (let t := after (((boot [0xAF]).setA 0x5A).setF 0x70)
    t.cycles == 4 && t.a == 0 && t.f == 0x80) = true :=
  by decide +kernel

/-- V42.14, OR C. -/
theorem test_V42_14 : (let t := after ((((boot [0xB1]).setA 0).setC 0).setF 0x70)
    t.cycles == 4 && t.a == 0 && t.f == 0x80) = true :=
  by decide +kernel

/-- V42.15, OR n8. -/
theorem test_V42_15 : (let t := after ((boot [0xF6, 0x81]).setA 2)
    t.cycles == 8 && t.a == 0x83 && t.f == 0) = true :=
  by decide +kernel

/-- V42.16, CP n8 less. -/
theorem test_V42_16 : (let t := after ((boot [0xFE, 0x90]).setA 0x3C)
    t.cycles == 8 && t.a == 0x3C && t.f == 0x50) = true :=
  by decide +kernel

/-- V42.17, CP B equal. -/
theorem test_V42_17 : (let t := after (((boot [0xB8]).setA 0x3C).setB 0x3C)
    t.cycles == 4 && t.a == 0x3C && t.f == 0xC0) = true :=
  by decide +kernel

/-- V42.18, INC A FF (C kept). -/
theorem test_V42_18 : (let t := after (((boot [0x3C]).setA 0xFF).setF 0x10)
    t.cycles == 4 && t.a == 0 && t.f == 0xB0) = true :=
  by decide +kernel

/-- V42.19, INC B 0F. -/
theorem test_V42_19 : (let t := after (((boot [0x04]).setB 0xF).setF 0)
    t.cycles == 4 && t.b == 0x10 && t.f == 0x20) = true :=
  by decide +kernel

/-- V42.20, DEC C 10. -/
theorem test_V42_20 : (let t := after (((boot [0x0D]).setC 0x10).setF 0)
    t.cycles == 4 && t.c == 0xF && t.f == 0x60) = true :=
  by decide +kernel

/-- V42.21, DEC D 01. -/
theorem test_V42_21 : (let t := after (((boot [0x15]).setD 1).setF 0x10)
    t.cycles == 4 && t.d == 0 && t.f == 0xD0) = true :=
  by decide +kernel

/-- V42.22, DEC E 00. -/
theorem test_V42_22 : (let t := after (((boot [0x1D]).setE 0).setF 0)
    t.cycles == 4 && t.e == 0xFF && t.f == 0x60) = true :=
  by decide +kernel

/-- V42.23, INC (HL). -/
theorem test_V42_23 : (let t := after (((boot [0x34]).setHl 0xC000).busWrite 0xC000 0x7F)
    t.cycles == 12 && t.f == 0x20 && (t.busRead 0xC000) == 0x80) = true :=
  by decide +kernel

/-- V42.24, DEC (HL). -/
theorem test_V42_24 : (let t := after (((boot [0x35]).setHl 0xC000).busWrite 0xC000 0)
    t.cycles == 12 && t.f == 0x60 && (t.busRead 0xC000) == 0xFF) = true :=
  by decide +kernel

/-- V42.29, DAA A=9A N0 H0 C0. -/
theorem test_V42_29 : (let t := after (((boot [0x27]).setA 0x9A).setF 0)
    t.cycles == 4 && t.a == 0 && t.f == 0x90) = true :=
  by decide +kernel

/-- V42.31, DAA A=FF N1 H1 C1. -/
theorem test_V42_31 : (let t := after (((boot [0x27]).setA 0xFF).setF 0x70)
    t.cycles == 4 && t.a == 0x99 && t.f == 0x50) = true :=
  by decide +kernel

/-- V42.32, CPL. -/
theorem test_V42_32 : (let t := after (((boot [0x2F]).setA 0x35).setF 0x90)
    t.cycles == 4 && t.a == 0xCA && t.f == 0xF0) = true :=
  by decide +kernel

/-- V42.33, SCF. -/
theorem test_V42_33 : (let t := after ((boot [0x37]).setF 0xE0)
    t.cycles == 4 && t.f == 0x90) = true :=
  by decide +kernel

/-- V42.34, CCF with C=1. -/
theorem test_V42_34 : (let t := after ((boot [0x3F]).setF 0xF0)
    t.cycles == 4 && t.f == 0x80) = true :=
  by decide +kernel

/-- V42.35, CCF with C=0. -/
theorem test_V42_35 : (let t := after ((boot [0x3F]).setF 0x60)
    t.cycles == 4 && t.f == 0x10) = true :=
  by decide +kernel

/-- V43.01, ADD HL,BC half-carry bit 11. -/
theorem test_V43_01 : (let t := after ((((boot [0x09]).setHl 0xFFF).setBc 1).setF 0x80)
    t.cycles == 8 && t.hl == 0x1000 && t.f == 0xA0) = true :=
  by decide +kernel

/-- V43.02, ADD HL,HL carry, Z kept. -/
theorem test_V43_02 : (let t := after (((boot [0x29]).setHl 0x8000).setF 0x80)
    t.cycles == 8 && t.hl == 0 && t.f == 0x90) = true :=
  by decide +kernel

/-- V43.03, ADD HL,SP. -/
theorem test_V43_03 : (let t := after ((((boot [0x39]).setHl 0x1234).setSp 0x10).setF 0)
    t.cycles == 8 && t.hl == 0x1244 && t.f == 0) = true :=
  by decide +kernel

/-- V43.04, ADD HL,DE no carry, Z kept 0. -/
theorem test_V43_04 : (let t := after ((((boot [0x19]).setHl 0x100).setDe 0x200).setF 0x70)
    t.cycles == 8 && t.hl == 0x300 && t.f == 0) = true :=
  by decide +kernel

/-- V43.05, INC BC FFFF. -/
theorem test_V43_05 : (let t := after (((boot [0x03]).setBc 0xFFFF).setF 0)
    t.cycles == 8 && t.bc == 0 && t.f == 0) = true :=
  by decide +kernel

/-- V43.06, DEC SP 0000. -/
theorem test_V43_06 : (let t := after (((boot [0x3B]).setSp 0).setF 0xF0)
    t.cycles == 8 && t.sp == 0xFFFF && t.f == 0xF0) = true :=
  by decide +kernel

/-- V43.07, INC HL. -/
theorem test_V43_07 : (let t := after ((boot [0x23]).setHl 0xFF)
    t.cycles == 8 && t.hl == 0x100) = true :=
  by decide +kernel

/-- V43.08, DEC DE. -/
theorem test_V43_08 : (let t := after ((boot [0x1B]).setDe 0x100)
    t.cycles == 8 && t.de == 0xFF) = true :=
  by decide +kernel

/-- V43.09, ADD SP,-1 SP=FFFE. -/
theorem test_V43_09 : (let t := after ((boot [0xE8, 0xFF]).setSp 0xFFFE)
    t.cycles == 16 && t.sp == 0xFFFD && t.f == 0x30) = true :=
  by decide +kernel

/-- V43.11, ADD SP,-128 SP=0000. -/
theorem test_V43_11 : (let t := after (((boot [0xE8, 0x80]).setSp 0).setF 0xF0)
    t.cycles == 16 && t.sp == 0xFF80 && t.f == 0) = true :=
  by decide +kernel

/-- V44.01, RLCA 80. -/
theorem test_V44_01 : (let t := after (((boot [0x07]).setA 0x80).setF 0)
    t.cycles == 4 && t.a == 1 && t.f == 0x10) = true :=
  by decide +kernel

/-- V44.02, RLCA 00 (Z stays 0). -/
theorem test_V44_02 : (let t := after (((boot [0x07]).setA 0).setF 0x80)
    t.cycles == 4 && t.a == 0 && t.f == 0) = true :=
  by decide +kernel

/-- V44.03, RRCA 01. -/
theorem test_V44_03 : (let t := after ((boot [0x0F]).setA 1)
    t.cycles == 4 && t.a == 0x80 && t.f == 0x10) = true :=
  by decide +kernel

/-- V44.04, RLA 80 C=0. -/
theorem test_V44_04 : (let t := after (((boot [0x17]).setA 0x80).setF 0)
    t.cycles == 4 && t.a == 0 && t.f == 0x10) = true :=
  by decide +kernel

/-- V44.06, RRA 01 C=0. -/
theorem test_V44_06 : (let t := after (((boot [0x1F]).setA 1).setF 0)
    t.cycles == 4 && t.a == 0 && t.f == 0x10) = true :=
  by decide +kernel

/-- V44.07, RLC B 00. -/
theorem test_V44_07 : (let t := after ((boot [0xCB, 0x00]).setB 0)
    t.cycles == 8 && t.b == 0 && t.f == 0x80 && t.pc == 0x102) = true :=
  by decide +kernel

/-- V44.08, RLC (HL) 85. -/
theorem test_V44_08 : (let t := after (((boot [0xCB, 0x06]).setHl 0xC000).busWrite 0xC000 0x85)
    t.cycles == 16 && t.f == 0x10 && (t.busRead 0xC000) == 0xB) = true :=
  by decide +kernel

/-- V44.09, RRC C 01. -/
theorem test_V44_09 : (let t := after ((boot [0xCB, 0x09]).setC 1)
    t.cycles == 8 && t.c == 0x80 && t.f == 0x10) = true :=
  by decide +kernel

/-- V44.10, RL D 80 C=0. -/
theorem test_V44_10 : (let t := after (((boot [0xCB, 0x12]).setD 0x80).setF 0)
    t.cycles == 8 && t.d == 0 && t.f == 0x90) = true :=
  by decide +kernel

/-- V44.11, RR E 01 C=1. -/
theorem test_V44_11 : (let t := after (((boot [0xCB, 0x1B]).setE 1).setF 0x10)
    t.cycles == 8 && t.e == 0x80 && t.f == 0x10) = true :=
  by decide +kernel

/-- V44.12, SLA H 80. -/
theorem test_V44_12 : (let t := after ((boot [0xCB, 0x24]).setH 0x80)
    t.cycles == 8 && t.h == 0 && t.f == 0x90) = true :=
  by decide +kernel

/-- V44.13, SRA L 81. -/
theorem test_V44_13 : (let t := after ((boot [0xCB, 0x2D]).setL 0x81)
    t.cycles == 8 && t.l == 0xC0 && t.f == 0x10) = true :=
  by decide +kernel

/-- V44.14, SWAP A F0. -/
theorem test_V44_14 : (let t := after (((boot [0xCB, 0x37]).setA 0xF0).setF 0x70)
    t.cycles == 8 && t.a == 0xF && t.f == 0) = true :=
  by decide +kernel

/-- V44.15, SWAP A 00. -/
theorem test_V44_15 : (let t := after (((boot [0xCB, 0x37]).setA 0).setF 0)
    t.cycles == 8 && t.a == 0 && t.f == 0x80) = true :=
  by decide +kernel

/-- V44.16, SRL A 01. -/
theorem test_V44_16 : (let t := after ((boot [0xCB, 0x3F]).setA 1)
    t.cycles == 8 && t.a == 0 && t.f == 0x90) = true :=
  by decide +kernel

/-- V44.17, BIT 7,H H=80 C=1. -/
theorem test_V44_17 : (let t := after (((boot [0xCB, 0x7C]).setH 0x80).setF 0x10)
    t.cycles == 8 && t.f == 0x30) = true :=
  by decide +kernel

/-- V44.18, BIT 0,B B=FE C=0. -/
theorem test_V44_18 : (let t := after (((boot [0xCB, 0x40]).setB 0xFE).setF 0)
    t.cycles == 8 && t.f == 0xA0) = true :=
  by decide +kernel

/-- V44.19, BIT 3,(HL). -/
theorem test_V44_19 : (let t := after ((((boot [0xCB, 0x5E]).setHl 0xC000).setF 0).busWrite 0xC000 8)
    t.cycles == 12 && t.f == 0x20) = true :=
  by decide +kernel

/-- V44.20, RES 0,A. -/
theorem test_V44_20 : (let t := after (((boot [0xCB, 0x87]).setA 0xFF).setF 0xF0)
    t.cycles == 8 && t.a == 0xFE && t.f == 0xF0) = true :=
  by decide +kernel

/-- V44.21, SET 7,(HL). -/
theorem test_V44_21 : (let t := after ((((boot [0xCB, 0xFE]).setHl 0xC000).setF 0).busWrite 0xC000 1)
    t.cycles == 16 && t.f == 0 && (t.busRead 0xC000) == 0x81) = true :=
  by decide +kernel

/-- V44.22, RES 7,(HL). -/
theorem test_V44_22 : (let t := after (((boot [0xCB, 0xBE]).setHl 0xC000).busWrite 0xC000 0xFF)
    t.cycles == 16 && (t.busRead 0xC000) == 0x7F) = true :=
  by decide +kernel

/-- V45.01, JP a16. -/
theorem test_V45_01 : (let t := after (boot [0xC3, 0x50, 0x01])
    t.cycles == 16 && t.pc == 0x150) = true :=
  by decide +kernel

/-- V45.02, JP NZ not taken (Z=1). -/
theorem test_V45_02 : (let t := after ((boot [0xC2, 0x00, 0x02]).setF 0x80)
    t.cycles == 12 && t.pc == 0x103) = true :=
  by decide +kernel

/-- V45.03, JP C taken. -/
theorem test_V45_03 : (let t := after ((boot [0xDA, 0x00, 0x02]).setF 0x10)
    t.cycles == 16 && t.pc == 0x200) = true :=
  by decide +kernel

/-- V45.04, JP HL. -/
theorem test_V45_04 : (let t := after ((boot [0xE9]).setHl 0xC000)
    t.cycles == 4 && t.pc == 0xC000) = true :=
  by decide +kernel

/-- V45.05, JR -2 (to itself). -/
theorem test_V45_05 : (let t := after (boot [0x18, 0xFE])
    t.cycles == 12 && t.pc == 0x100) = true :=
  by decide +kernel

/-- V45.06, JR +127. -/
theorem test_V45_06 : (let t := after (boot [0x18, 0x7F])
    t.cycles == 12 && t.pc == 0x181) = true :=
  by decide +kernel

/-- V45.07, JR -128. -/
theorem test_V45_07 : (let t := after (boot [0x18, 0x80])
    t.cycles == 12 && t.pc == 0x82) = true :=
  by decide +kernel

/-- V45.08, JR NZ taken (§8). -/
theorem test_V45_08 : (let t := after ((boot [0x20, 0x05]).setF 0)
    t.cycles == 12 && t.pc == 0x107) = true :=
  by decide +kernel

/-- V45.09, JR NZ not taken (§8). -/
theorem test_V45_09 : (let t := after ((boot [0x20, 0x05]).setF 0x80)
    t.cycles == 8 && t.pc == 0x102) = true :=
  by decide +kernel

/-- V45.10, JR NC taken. -/
theorem test_V45_10 : (let t := after ((boot [0x30, 0xFC]).setF 0)
    t.cycles == 12 && t.pc == 0xFE) = true :=
  by decide +kernel

/-- V45.11, CALL a16. -/
theorem test_V45_11 : (let t := after ((boot [0xCD, 0x00, 0x02]).setSp 0xD000)
    t.cycles == 24 && t.pc == 0x200 && t.sp == 0xCFFE && (t.busRead 0xCFFF) == 1 && (t.busRead 0xCFFE) == 3) = true :=
  by decide +kernel

/-- V45.12, CALL Z not taken. -/
theorem test_V45_12 : (let t := after (((boot [0xCC, 0x00, 0x02]).setSp 0xD000).setF 0)
    t.cycles == 12 && t.pc == 0x103 && t.sp == 0xD000) = true :=
  by decide +kernel

/-- V45.13, CALL NC taken. -/
theorem test_V45_13 : (let t := after (((boot [0xD4, 0x00, 0x02]).setSp 0xD000).setF 0)
    t.cycles == 24 && t.pc == 0x200 && t.sp == 0xCFFE) = true :=
  by decide +kernel

/-- V45.14, RET. -/
theorem test_V45_14 : (let t := after ((((boot [0xC9]).setSp 0xCFFE).busWrite 0xCFFE 0x34).busWrite 0xCFFF 0x12)
    t.cycles == 16 && t.pc == 0x1234 && t.sp == 0xD000) = true :=
  by decide +kernel

/-- V45.15, RET NC not taken (C=1). -/
theorem test_V45_15 : (let t := after (((boot [0xD0]).setSp 0xCFFE).setF 0x10)
    t.cycles == 8 && t.pc == 0x101 && t.sp == 0xCFFE) = true :=
  by decide +kernel

/-- V45.16, RET Z taken. -/
theorem test_V45_16 : (let t := after (((((boot [0xC8]).setSp 0xCFFE).setF 0x80).busWrite 0xCFFE 0).busWrite 0xCFFF 3)
    t.cycles == 20 && t.pc == 0x300 && t.sp == 0xD000) = true :=
  by decide +kernel

/-- V45.17, RETI. -/
theorem test_V45_17 : (let t := after ((({ (boot [0xD9]).setSp 0xCFFE with ime := false }).busWrite 0xCFFE 0).busWrite 0xCFFF 3)
    t.cycles == 16 && t.pc == 0x300 && t.sp == 0xD000 && t.ime == true) = true :=
  by decide +kernel

/-- V45.18, RST 38. -/
theorem test_V45_18 : (let t := after ((boot [0xFF]).setSp 0xD000)
    t.cycles == 16 && t.pc == 0x38 && t.sp == 0xCFFE && (t.busRead 0xCFFF) == 1 && (t.busRead 0xCFFE) == 1) = true :=
  by decide +kernel

/-- V45.19, RST 00. -/
theorem test_V45_19 : (let t := after ((boot [0xC7]).setSp 0xD000)
    t.cycles == 16 && t.pc == 0 && t.sp == 0xCFFE) = true :=
  by decide +kernel

/-- V46.01, NOP. -/
theorem test_V46_01 : (let t := after (boot [0x00])
    t.cycles == 4 && t.pc == 0x101) = true :=
  by decide +kernel

/-- V46.05, HALT with IME=1 and pending: dispatch. -/
theorem test_V46_05 : (let t := after (({ ({ boot [0x76] with ie := 1 }).setIf 0xE1 with ime := true }).setSp 0xD000)
    t.cycles == 24 && t.pc == 0x40 && t.sp == 0xCFFE && t.ime == false && t.ifReg == 0xE0 && t.halted == false &&
      (t.busRead 0xCFFF) == 1 && (t.busRead 0xCFFE) == 1) = true :=
  by decide +kernel

/-- V46.07, DI. -/
theorem test_V46_07 : (let t := after ({ boot [0xF3] with ime := true })
    t.cycles == 4 && t.ime == false) = true :=
  by decide +kernel

/-- V46.10, STOP armed. -/
theorem test_V46_10 : (let t := after ({ boot [0x10, 0x00] with key1Armed := true })
    t.cycles == 4 && t.doubleSpeed == true && t.key1Armed == false && t.stopped == false && t.pc == 0x102) = true :=
  by decide +kernel

/-- V46.12, Unused D3 (P_UNUSED_OPCODE=NOP). -/
theorem test_V46_12 : (let t := after (boot [0xD3])
    t.cycles == 4 && t.pc == 0x101) = true :=
  by decide +kernel

/-- V46.13, CB prefix + SWAP B (prefix costs 0). -/
theorem test_V46_13 : (let t := after ((boot [0xCB, 0x30]).setB 0x12)
    t.cycles == 8 && t.b == 0x21 && t.pc == 0x102) = true :=
  by decide +kernel
/-! ### One step each around exceptions, from 60 of 95_test_vectors.md -/

/-- V60.01: VBlank goes before Timer; IF's bit 0 and IME are cleared, 0x0101 is pushed. -/
theorem test_V60_01 :
    (let t := after ({ { boot [0x00] with ie := 0x05 }.setIf 0xE5 with ime := true, sp := 0xD000 })
    t.cycles == 24 && t.pc == 0x40 && t.ifReg == 0xE4 && t.ime == false && t.sp == 0xCFFE && t.busRead 0xCFFF == 1 &&
      t.busRead 0xCFFE == 1) = true := by decide +kernel

/-- V60.02, source 4: the vector 0x0060. -/
theorem test_V60_02 :
    (let t := after ({ { boot [0x00] with ie := 0x1F }.setIf 0xF0 with ime := true })
    t.cycles == 24 && t.pc == 0x60 && t.ifReg == 0xE0) = true := by decide +kernel

/-- V60.04: bits 7:5 of IE enable nothing. -/
theorem test_V60_04 :
    (let t := after ({ { boot [0x00] with ie := 0xE0 }.setIf 0xFF with ime := true })
    t.cycles == 4 && t.pc == 0x101) = true := by decide +kernel

/-- V60.11: a push into the I/O block writes IF, and the serviced bit is cleared after it. -/
theorem test_V60_11 :
    (let t := after ({ { boot [0x00] with ie := 0x01 }.setIf 0xE1 with ime := true, sp := 0xFF11 })
    t.cycles == 24 && t.pc == 0x40 && t.ifReg == 0xE0 && t.sp == 0xFF0F && t.busRead 0xFF10 == 1) = true := by decide +kernel

/-- V60.13: RETI sets IME at once, and the same step dispatches, pushing the address it returned to. -/
theorem test_V60_13 :
    (let t := after ({ ((boot [0xD9]).busWrite 0xCFFF 0x03).busWrite 0xCFFE 0x00 with sp := 0xCFFE, ie := 0x01 })
    t.cycles == 36 && t.pc == 0x40 && t.busRead 0xCFFF == 3 && t.busRead 0xCFFE == 0) = true := by decide +kernel

/-- V46.03, its last step: after the HALT bug 3C runs twice, the first time without advancing PC. -/
theorem test_V46_03 :
    (let t := after ({ boot [0x76, 0x3C] with pc := 0x101, haltBug := true })
    t.a == 0x12 && t.pc == 0x101 && t.haltBug == false) = true := by decide +kernel

/-- R335 under LOCKUP: the step has no successor. -/
theorem test_lockup :
    (match step { boot [0xFD] with params := { Params.default with unusedOpcode := .lockup } } with
    | .fault .lockup => true
    | .next _ => false
    | .refused _ => false) = true := by decide +kernel

/-- State.reset is the reset of 70 R450 at the instance log 1, 2, 3 and 12 name. -/
theorem test_reset : reset erasedCart none .postBoot Params.default onesDraw 0xFF = .ok State.reset := rfl

/-- The first instruction after reset is the one placed (log 3). -/
theorem test_withFetchWord :
    (let t := after (State.reset.withFetchWord 16 0xCB37)
    t.cycles == 8 && t.a == 0x11 && t.f == 0x00 && t.pc == 0x102) = true := by decide +kernel

/-! ### The bus, from 20 of 95_test_vectors.md -/

/-- An MBC1 cartridge with 8 ROM banks and 8 KiB of RAM. -/
def mbc1 : State :=
  { State.reset with cart := { kind := .mbc1, romBanks := 8, ramSize := 8192, rom := [(0x4000, 1), (0x14000, 5)] } }

/-- An MBC5 cartridge with 4 ROM banks. -/
def mbc5 : State :=
  { State.reset with cart := { kind := .mbc5, romBanks := 4, ramSize := 0, rom := [(0x8000, 2)] } }

/-- V20.25 and V20.26: MBC1 selects bank 5, and bank 0 as bank 1. -/
theorem test_mbc1_banks :
    (mbc1.busWrite 0x2000 0x05).busRead 0x4000 = 5 ∧ (mbc1.busWrite 0x2000 0x00).busRead 0x4000 = 1 := by decide +kernel

/-- V20.31: MBC5 takes the bank modulo the bank count. -/
theorem test_mbc5_banks : (mbc5.busWrite 0x2000 0x06).busRead 0x4000 = 2 := by decide +kernel

/-- V20.06 and V20.07: external RAM reads 0xFF until 0x0A enables it. -/
theorem test_eram :
    mbc1.busRead 0xA000 = 0xFF ∧ ((mbc1.busWrite 0x0000 0x0A).busWrite 0xA000 0x34).busRead 0xA000 = 0x34 := by decide +kernel

/-- V20.19: P1 with the directions selected and Right pressed. -/
theorem test_p1 : (({ State.reset with joypIn := 0xFE } : State).busWrite 0xFF00 0x20).busRead 0xFF00 = 0xEE := by decide +kernel

/-- V20.14: KEY1. -/
theorem test_key1 :
    State.reset.busRead 0xFF4D = 0x7E ∧ (State.reset.busWrite 0xFF4D 0xFF).busRead 0xFF4D = 0x7F := by decide +kernel

/-- V20.15: the not-usable region in mode 0. -/
theorem test_unusable :
    (State.reset.busWrite 0xFF41 0x00).busRead 0xFEA5 = 0xAA ∧ (State.reset.busWrite 0xFF41 0x00).busRead 0xFEF3 = 0xFF := by
  decide +kernel

/-- V20.33: an HBlank transfer armed, then cancelled. -/
theorem test_hdma :
    (State.reset.busWrite 0xFF55 0x81).busRead 0xFF55 = 0x01 ∧
    ((State.reset.busWrite 0xFF55 0x81).busWrite 0xFF55 0x00).busRead 0xFF55 = 0x81 := by decide +kernel

/-! ### A witness for the hypotheses of each statement: concrete states and operands that meet all of them -/

/-- A finite check of a list. -/
theorem of_all {α : Type} {l : List α} {p : α → Prop} [DecidablePred p] (h : l.all (fun a => decide (p a)) = true) :
    ∀ a ∈ l, p a := fun a ha => of_decide_eq_true (List.all_eq_true.mp h a ha)

/-- The machine the witnesses start from meets the invariant. -/
theorem wit_inv : mbc1.Inv where
  wram := rfl
  vram := rfl
  oam := rfl
  hram := rfl
  bgPal := rfl
  objPal := rfl
  eram := rfl
  cart := ⟨⟨2, by decide +kernel, rfl⟩, by decide +kernel, fun h => MbcKind.noConfusion h, by decide +kernel⟩
  fLow := rfl
  oneStall := by decide +kernel
  bugRuns := by decide +kernel
  eiRuns := by decide +kernel
  mbc1Rom := by decide +kernel
  mbc1Ram := by decide +kernel
  hdmaDst := rfl
  boot := by decide +kernel

theorem wit_DecodeEncode : wellFormed (.call_a16 0xFFFF) = true ∧ wellFormed .set_7_A = true := ⟨rfl, rfl⟩

theorem wit_EncodeDecode : decode [0xFE, 0x40, 0x99] = .ok (.cp_A_n8 0x40, [0x99]) := rfl

theorem wit_DecodeTotal : 3 ≤ [(0xCB : Byte), 0xFF, 0x00].length := by decide +kernel

/-- One for each length, at the last opcode of each list. -/
theorem wit_LengthFromFirstByte :
    decode (0xCB :: [0xFF]) = .ok (.set_7_A, []) ∧ decode (0xFE :: [0x00]) = .ok (.cp_A_n8 0x00, []) ∧
    decode (0xFA :: [0x00, 0x00]) = .ok (.ld_A_MemA16 0x0000, []) ∧ decode (0xFF :: []) = .ok (.rst_38, []) :=
  ⟨rfl, rfl, rfl, rfl⟩

theorem wit_CbPrefix : decode [0xCB, 0xCB, 0x00] = .ok (.set_1_E, [0x00]) := rfl

theorem wit_StepRunsDecoded_1 :
    let s : State := boot [0xC3, 0x34, 0x12];
    s.running = true ∧ s.haltBug = false ∧
      decode [s.busRead s.pc, s.busRead (s.pc + 1), s.busRead (s.pc + 2)] = .ok (.jp_a16 0x1234, []) := ⟨rfl, rfl, rfl⟩

theorem wit_StepRunsDecoded_2 :
    let s : State := { boot [0x3E, 0x00] with haltBug := true };
    s.running = true ∧ s.haltBug = true ∧
      decode [s.busRead s.pc, s.busRead s.pc, s.busRead (s.pc + 1)] = .ok (.ld_A_n8 0x3E, [0x00]) := ⟨rfl, rfl, rfl⟩

/-- HALTED with nothing pending; woken at the lowest and the highest source, IME 0 and 1; STOPPED. -/
theorem wit_StallSteps :
    (let s : State := { State.reset with halted := true };
      s.stopped = false ∧ s.halted = true ∧ s.ie &&& s.ifReg &&& 0x1F = 0) ∧
    (let s : State := { State.reset with halted := true, ie := 0x01 };
      s.stopped = false ∧ s.halted = true ∧ s.ie &&& s.ifReg &&& 0x1F ≠ 0 ∧ s.ime = false) ∧
    (let s : State := { State.reset.setIf 0xF0 with halted := true, ie := 0x10, ime := true };
      s.stopped = false ∧ s.halted = true ∧ s.ie &&& s.ifReg &&& 0x1F ≠ 0 ∧ s.ime = true) ∧
    ({ State.reset with stopped := true } : State).stopped = true := by decide +kernel

/-- No dispatch without IME, or with only bits 7:5 pending; a dispatch of source 0 and of source 4. -/
theorem wit_InterruptCheck :
    (State.reset.ime = false) ∧
    (let s : State := { State.reset with ime := true, ie := 0xE0 }; s.ie &&& s.ifReg &&& 0x1F = 0) ∧
    (let s : State := { State.reset with ime := true, ie := 0xFF };
      0 < 5 ∧ s.ime = true ∧ s.ie.getLsbD 0 = true ∧ s.ifReg.getLsbD 0 = true ∧
        ∀ j, j < 0 → s.ie.getLsbD j = false ∨ s.ifReg.getLsbD j = false) ∧
    (let s : State := { State.reset.setIf 0xF0 with ime := true, ie := 0x1F };
      4 < 5 ∧ s.ime = true ∧ s.ie.getLsbD 4 = true ∧ s.ifReg.getLsbD 4 = true ∧
        ∀ j, j < 4 → s.ie.getLsbD j = false ∨ s.ifReg.getLsbD j = false) := by decide +kernel

theorem wit_Dispatch : 0 < 5 ∧ 4 < 5 := by decide +kernel

theorem wit_EiDelay_any :
    (let s : State := { boot [0xD9] with eiPending := true };
      s.running = true ∧ s.haltBug = false ∧
        decode [s.busRead s.pc, s.busRead (s.pc + 1), s.busRead (s.pc + 2)] = .ok (.reti, [0xFF, 0xFF]) ∧
        ∃ u, exec .reti { s with pc := s.pc + BitVec.ofNat 16 Instr.reti.length, haltBug := false } = .next u) ∧
    (let s : State := { boot [0x3E, 0x00] with haltBug := true, eiPending := true };
      s.running = true ∧ s.haltBug = true ∧
        decode [s.busRead s.pc, s.busRead s.pc, s.busRead (s.pc + 1)] = .ok (.ld_A_n8 0x3E, [0x00]) ∧
        ∃ u, exec (.ld_A_n8 0x3E)
          { s with pc := s.pc + BitVec.ofNat 16 (Instr.ld_A_n8 0x3E).length - 1, haltBug := false } = .next u) :=
  ⟨⟨rfl, rfl, rfl, _, rfl⟩, rfl, rfl, rfl, _, rfl⟩

/-- EI; EI with a request pending; the first EI; NOP, DI and HALT after an EI. -/
theorem wit_EiDelay :
    (let s : State := { boot [0xFB] with eiPending := true, ie := 0x01 };
      s.running = true ∧ s.haltBug = false ∧ s.busRead s.pc = 0xFB) ∧
    (let s : State := boot [0xFB];
      s.running = true ∧ s.haltBug = false ∧ s.busRead s.pc = 0xFB ∧ s.ime = false ∧ s.eiPending = false) ∧
    (let s : State := { boot [0x00] with eiPending := true };
      s.running = true ∧ s.haltBug = false ∧ s.busRead s.pc = 0x00 ∧ s.eiPending = true ∧ s.pending = 0) ∧
    (let s : State := { boot [0xF3] with eiPending := true };
      s.running = true ∧ s.haltBug = false ∧ s.busRead s.pc = 0xF3) ∧
    (let s : State := { boot [0x76] with eiPending := true, ie := 0x01 };
      s.running = true ∧ s.haltBug = false ∧ s.ime = false ∧ s.eiPending = true ∧ s.pending ≠ 0 ∧ s.busRead s.pc = 0x76 ∧
        0 < 8 ∧ 7 < 8) := by
  decide +kernel

theorem wit_StepKeepsInv : mbc1.Inv ∧ ∃ t, step mbc1 = .next t := ⟨wit_inv, _, rfl⟩

/-- Both reset profiles start; each kind of event happens. -/
theorem wit_ResetInv :
    (∃ s, reset erasedCart none .postBoot Params.default onesDraw 0xFF = .ok s) ∧
    (∃ s, reset erasedCart (some [(0, 0x31)]) .bootRom Params.default onesDraw 0xFF = .ok s) ∧
    (mbc1.Inv ∧ ∃ t, hostEvent (.requestInterrupt 4) mbc1 = .next t) ∧
    (∃ t, hostEvent (.devicePortWrite 0x04 0x12) mbc1 = .next t) ∧ (∃ t, hostEvent .hblank mbc1 = .next t) ∧
    (∃ t, hostEvent (.setJoypad 0xFE) mbc1 = .next t) :=
  ⟨⟨_, rfl⟩, ⟨_, rfl⟩, ⟨wit_inv, _, rfl⟩, ⟨_, rfl⟩, ⟨_, rfl⟩, ⟨_, rfl⟩⟩

theorem wit_Constants : (∃ t, step mbc1 = .next t) ∧ mbc1.bootMapped = false := ⟨⟨_, rfl⟩, rfl⟩

/-- Taken and not taken. -/
theorem wit_CyclesTable :
    (∃ t, exec (.jr_NZ_e8 0x05) (State.reset.setF 0x00) = .next t) ∧ takenIn (.jr_NZ_e8 0x05) (State.reset.setF 0x00) = true ∧
    (∃ t, exec (.jr_NZ_e8 0x05) State.reset = .next t) ∧ takenIn (.jr_NZ_e8 0x05) State.reset = false :=
  ⟨⟨_, rfl⟩, by decide +kernel, ⟨_, rfl⟩, by decide +kernel⟩

theorem wit_EngineBitWriters :
    (∃ t, exec .ei State.reset = .next t) ∧ Instr.ei ≠ .di ∧ Instr.ei ≠ .reti ∧ Instr.ei ≠ .halt ∧ ∀ x, Instr.ei ≠ .stop x :=
  ⟨⟨_, rfl⟩, by simp, by simp, by simp, by simp⟩

/-- An unprefixed instruction, and the first CB instruction outside the flag writers. -/
theorem wit_FlagWriters :
    ((∃ t, exec .inc_BC State.reset = .next t) ∧ encode .inc_BC = [0x03] ∧ flagOpcode 0x03 = false ∧ (0x03 : Byte) ≠ 0xCB) ∧
    ((∃ t, exec .res_0_B State.reset = .next t) ∧ encode .res_0_B = [0xCB, 0x80] ∧ flagOpcode 0xCB = false ∧
      ∀ sub ∈ [(0x80 : Byte)], 0x80 ≤ sub.toNat) :=
  ⟨⟨⟨_, rfl⟩, rfl, rfl, by decide⟩, ⟨_, rfl⟩, rfl, rfl, of_all (by decide)⟩

/-- A compare, a register destination, and a call that is not taken. -/
theorem wit_NoStoreFrame :
    ((∃ t, exec .cp_A_MemHL State.reset = .next t) ∧ stores .cp_A_MemHL State.reset = []) ∧
    ((∃ t, exec (.call_NZ_a16 0x1234) State.reset = .next t) ∧ stores (.call_NZ_a16 0x1234) State.reset = []) :=
  ⟨⟨⟨_, rfl⟩, rfl⟩, ⟨_, rfl⟩, rfl⟩

/-- A push into HRAM and the byte above it; a store through echo RAM and the WRAM byte below its cell. -/
theorem wit_StoreFrame :
    (let s : State := State.reset;
      (∃ t, exec .push_BC s = .next t) ∧ (∀ a ∈ stores .push_BC s, plainRegion (resolve a) = true) ∧
        ∀ a ∈ stores .push_BC s, s.cellOf a ≠ s.cellOf 0xFFFE) ∧
    (let s : State := { State.reset with hl := 0xFDFF };
      (∃ t, exec .inc_MemHL s = .next t) ∧ (∀ a ∈ stores .inc_MemHL s, plainRegion (resolve a) = true) ∧
        ∀ a ∈ stores .inc_MemHL s, s.cellOf a ≠ s.cellOf 0xDDFE) :=
  ⟨⟨⟨_, rfl⟩, of_all (by decide +kernel), of_all (by decide +kernel)⟩, ⟨_, rfl⟩, of_all (by decide +kernel),
    of_all (by decide +kernel)⟩

/-- The first and the last address of each kind of plain storage. -/
theorem wit_ReadAfterWrite :
    (mbc1.Inv ∧
      ∀ a ∈ [(0x8000 : Word), 0x9FFF, 0xC000, 0xCFFF, 0xD000, 0xDFFF, 0xE000, 0xFDFF, 0xFE00, 0xFE9F, 0xFF80, 0xFFFE, 0xFFFF],
        resolve a ∈ [Region.vram, .wram0, .wramX, .echo, .oam, .hram, .ie]) ∧
    (let s : State := { mbc1 with ramEnable := true };
      (∀ a ∈ [(0xA000 : Word), 0xBFFF], resolve a = .eram) ∧ s.cart.kind ≠ .romOnly ∧ s.cart.ramSize ≠ 0 ∧
        s.ramEnable = true) := ⟨⟨wit_inv, of_all (by decide +kernel)⟩, of_all (by decide +kernel), by decide +kernel⟩

theorem wit_WramWindows :
    (∀ a ∈ [(0xE000 : Word), 0xFDFF], 0xE000 ≤ a.toNat ∧ a.toNat ≤ 0xFDFF) ∧ 0 < 0x1000 ∧ 0xFFF < 0x1000 :=
  ⟨of_all (by decide +kernel), by decide +kernel⟩

/-- The first and the last byte of each window. -/
theorem wit_StorageWindows :
    (0 < 0x2000 ∧ 0x1FFF < 0x2000) ∧ (0 < 0x1000 ∧ 0xFFF < 0x1000) ∧ (0 < 160 ∧ 159 < 160) ∧ 0 < 127 ∧ 126 < 127 := by
  decide +kernel

/-- Each register's first and last address, on a machine of the kind. -/
theorem wit_MbcWrites :
    (State.reset.cart.kind = .romOnly ∧ (0x7FFF : Word).toNat < 0x8000) ∧
    (mbc1.cart.kind = .mbc1 ∧ mbc1.cart.kind ≠ .romOnly ∧ mbc1.mbc1Mode = .rom ∧
      ({ mbc1 with mbc1Mode := .ram } : State).mbc1Mode = .ram) ∧
    mbc5.cart.kind = .mbc5 ∧
    (∀ a ∈ [(0x0000 : Word), 0x1FFF], a.toNat < 0x2000) ∧
    (∀ a ∈ [(0x2000 : Word), 0x3FFF], 0x2000 ≤ a.toNat ∧ a.toNat < 0x4000) ∧
    (∀ a ∈ [(0x4000 : Word), 0x5FFF], 0x4000 ≤ a.toNat ∧ a.toNat < 0x6000) ∧
    (∀ a ∈ [(0x6000 : Word), 0x7FFF], 0x6000 ≤ a.toNat ∧ a.toNat < 0x8000) ∧
    (∀ a ∈ [(0x2000 : Word), 0x2FFF], 0x2000 ≤ a.toNat ∧ a.toNat < 0x3000) ∧
    (∀ a ∈ [(0x3000 : Word), 0x3FFF], 0x3000 ≤ a.toNat ∧ a.toNat < 0x4000) :=
  ⟨by decide +kernel, by decide +kernel, by decide +kernel, of_all (by decide +kernel), of_all (by decide +kernel),
    of_all (by decide +kernel), of_all (by decide +kernel), of_all (by decide +kernel), of_all (by decide +kernel)⟩

/-- The edges of the boot overlay, with an image mapped and without. -/
theorem wit_RomReads :
    (let s : State := { State.reset with bootMapped := true, bootRom := some [(0, 0x31)] };
      s.bootMapped = true ∧ s.bootRom = some [(0, 0x31)]) ∧
    (∀ a ∈ [(0x0000 : Word), 0x00FF, 0x0200, 0x08FF], a.toNat < 0x100 ∨ (0x200 ≤ a.toNat ∧ a.toNat < 0x900)) ∧
    (∀ a ∈ [(0x0100 : Word), 0x01FF, 0x0900, 0x7FFF],
      (0x100 ≤ a.toNat ∧ (a.toNat < 0x200 ∨ 0x900 ≤ a.toNat)) ∧ a.toNat < 0x8000) ∧
    State.reset.bootMapped = false :=
  ⟨⟨rfl, rfl⟩, of_all (by decide +kernel), of_all (by decide +kernel), rfl⟩

theorem wit_BankClamp :
    (mbc1.cart.kind ≠ .romOnly ∧ (9 : BitVec 9).toNat = (1 : BitVec 9).toNat + mbc1.cart.romBanks ∧
      ∀ a ∈ [(0x4000 : Word), 0x7FFF], 0x4000 ≤ a.toNat ∧ a.toNat < 0x8000) ∧
    (mbc1.Inv ∧ ∀ a ∈ [(0x0000 : Word), 0x7FFF], a.toNat < 0x8000) :=
  ⟨⟨by decide +kernel, rfl, of_all (by decide +kernel)⟩, wit_inv, of_all (by decide +kernel)⟩

/-- Closed and open external RAM; the not-usable region in modes 2 and 1, with the pattern and with a table. -/
theorem wit_EramAndUnusable :
    (∀ a ∈ [(0xA000 : Word), 0xBFFF], 0xA000 ≤ a.toNat ∧ a.toNat ≤ 0xBFFF) ∧ State.reset.cart.kind = .romOnly ∧
    mbc5.cart.ramSize = 0 ∧ mbc1.ramEnable = false ∧
    (let s : State := { mbc1 with ramEnable := true };
      s.cart.kind ≠ .romOnly ∧ s.cart.ramSize ≠ 0 ∧ s.ramEnable = true) ∧
    (∀ a ∈ [(0xFEA0 : Word), 0xFEFF], 0xFEA0 ≤ a.toNat ∧ a.toNat ≤ 0xFEFF) ∧
    2 ≤ ((State.reset.setPort 0x41 0x02).port 0x41).toNat % 4 ∧
    (let s : State := State.reset.setPort 0x41 0x01; (s.port 0x41).toNat % 4 < 2 ∧ s.params.unusableRead = .pattern) ∧
    (let s : State := { State.reset.setPort 0x41 0x01 with
        params := { Params.default with unusableRead := .table (Vector.replicate 192 0x12) } };
      (s.port 0x41).toNat % 4 < 2 ∧ s.params.unusableRead = .table (Vector.replicate 192 0x12)) :=
  ⟨of_all (by decide +kernel), rfl, rfl, rfl, by decide +kernel, of_all (by decide +kernel), by decide +kernel,
    by decide +kernel, by decide +kernel, rfl⟩

theorem wit_PortRules : 0 < 8 ∧ 7 < 8 := by decide

/-- Plain ports at the edges of the excluded ones, and DMA and boot disable. -/
theorem wit_PlainPorts :
    ∀ p ∈ [(0x01 : BitVec 7), 0x46, 0x50, 0x54, 0x68, 0x6A, 0x70, 0x7F],
      p.toNat ∉ [0x00, 0x04, 0x0F, 0x4D, 0x55, 0x69, 0x6B] := of_all (by decide +kernel)

theorem wit_Palette :
    ((State.reset.setPort 0x68 0x3F).port 0x68).getLsbD 7 = false ∧ ((State.reset.setPort 0x68 0xBF).port 0x68).getLsbD 7 = true ∧
    ((State.reset.setPort 0x6A 0x3F).port 0x6A).getLsbD 7 = false ∧ ((State.reset.setPort 0x6A 0xBF).port 0x6A).getLsbD 7 = true := by
  decide +kernel

theorem wit_OamDma : mbc1.Inv ∧ 0 < 160 ∧ 159 < 160 := ⟨wit_inv, by decide +kernel, by decide +kernel⟩

/-- A cancel, an arming, and a copy of one block from WRAM (the copy needs the invariant). -/
theorem wit_HdmaPort :
    (({ mbc1 with hdmaActive := true } : State).hdmaActive = true ∧ (0x7F : Byte).getLsbD 7 = false) ∧
    (0x80 : Byte).getLsbD 7 = true ∧
    (mbc1.Inv ∧ mbc1.hdmaActive = false ∧ (0x00 : Byte).getLsbD 7 = false ∧
      ∀ k, k < 16 → resolve ((0xC000 : Word) + BitVec.ofNat 16 k) ≠ .vram) :=
  ⟨by decide +kernel, by decide +kernel, wit_inv, by decide +kernel, by decide +kernel, by decide +kernel⟩

/-- Sources 0, 4 and 5; no transfer; an armed one on its last block and before it, from WRAM. -/
theorem wit_HostEvents :
    0 < 5 ∧ 4 < 5 ∧ 5 ≤ 5 ∧ mbc1.hdmaActive = false ∧
    (let s : State := { mbc1 with hdmaActive := true, hdmaBlocks := 0, hdmaSrc := 0xC000 };
      s.Inv ∧ s.hdmaActive = true ∧ ∀ k, k < 16 → resolve (s.hdmaSrc + BitVec.ofNat 16 k) ≠ .vram) ∧
    (let s : State := { mbc1 with hdmaActive := true, hdmaBlocks := 0x7F };
      s.Inv ∧ s.hdmaActive = true ∧ s.hdmaBlocks ≠ 0) :=
  ⟨by decide, by decide, by decide, rfl, ⟨{ wit_inv with }, rfl, by decide +kernel⟩, { wit_inv with }, rfl, by decide⟩

/-- A device's write is not the CPU's: DIV, IF and P1 take the byte as given (60 R413). -/
theorem test_devicePortWrite :
    (match hostEvent (.devicePortWrite 0x04 0x12) State.reset with | .next t => t.busRead 0xFF04 == 0x12 | _ => false) = true ∧
    (match hostEvent (.devicePortWrite 0x0F 0x02) State.reset with | .next t => t.busRead 0xFF0F == 0x02 | _ => false) = true ∧
    (match hostEvent (.devicePortWrite 0x00 0x3A) State.reset with | .next t => t.port 0x00 == 0x3A | _ => false) = true := by
  decide +kernel

/-- Each part of an HDMA copy at its shortest and its longest; the HBlank copy reads VRAM itself. -/
theorem wit_HdmaCopyOrder :
    (let s : State := { mbc1 with hdmaActive := true, hdmaSrc := 0x8000 };
      s.hdmaActive = true ∧ resolve s.hdmaSrc = .vram ∧ 0 < 16 ∧ 15 < 16) ∧
    mbc1.hdmaActive = false ∧ (0x00 : Byte).getLsbD 7 = false ∧ (0x7F : Byte).getLsbD 7 = false ∧
    15 < ((0x00 : Byte).toNat % 128 + 1) * 16 ∧ 2047 < ((0x7F : Byte).toNat % 128 + 1) * 16 := by decide +kernel

/-- Both reset profiles, the first and the last offset of each array, and each kind of cartridge. -/
theorem wit_ResetValues :
    (∃ s, reset erasedCart none .postBoot Params.default onesDraw 0xFF = .ok s) ∧
    (∃ s, reset erasedCart (some [(0, 0x31)]) .bootRom Params.default onesDraw 0xFF = .ok s) ∧
    (∃ s, reset { erasedCart with typeByte := 0x03, ramSizeByte := 0x02, eram := [(0x1FFF, 0x5A)] } none .postBoot
        Params.default onesDraw 0xFF = .ok s ∧ 0x1FFF < s.cart.ramSize ∧ 0x7FFF < s.cart.romBanks * 0x4000) ∧
    (∃ s, reset { erasedCart with typeByte := 0x1E } none .postBoot Params.default onesDraw 0xFF = .ok s) ∧
    (0x7F : BitVec 7).toNat ∉ [0x00, 0x0F, 0x4F, 0x50, 0x55, 0x70] ∧ (0x7FFF < 0x8000 ∧ 0x3FFF < 0x4000) ∧
    159 < 160 ∧ 126 < 127 ∧ 63 < 64 ∧ 0x8FF < 0x900 :=
  ⟨⟨_, rfl⟩, ⟨_, rfl⟩, ⟨_, rfl, by decide, by decide⟩, ⟨_, rfl⟩, by decide⟩

/-- A drawn array is read back from the draw, the last cell winning (10 R59). -/
theorem test_reset_draw :
    (match reset erasedCart none .postBoot Params.default { onesDraw with wram := [(2, 0x11), (0, 0x22), (2, 0x33)] } 0xFF with
    | .ok s => s.busRead 0xC000 == 0x22 && s.busRead 0xC001 == 0xFF && s.busRead 0xC002 == 0x33
    | .error _ => false) = true := by decide +kernel

theorem wit_LoadRegister : R8.b ≠ .mHL ∧ R8.a ≠ .mHL := by decide +kernel

theorem wit_StoreAtHl : R8.b ≠ .mHL ∧ R8.a ≠ .mHL := by decide +kernel

/-- A stack in HRAM below IE, and one that wraps around the address space. -/
theorem wit_StackRoundTrip :
    (mbc1.Inv ∧ (∀ a ∈ [mbc1.sp - 1, mbc1.sp - 2], resolve a ∈ [Region.vram, .wram0, .wramX, .echo, .oam, .hram, .ie]) ∧
      mbc1.cellOf (mbc1.sp - 1) ≠ mbc1.cellOf (mbc1.sp - 2)) ∧
    (let s : State := { mbc1 with sp := 0x0000 };
      s.Inv ∧ (∀ a ∈ [s.sp - 1, s.sp - 2], resolve a ∈ [Region.vram, .wram0, .wramX, .echo, .oam, .hram, .ie]) ∧
        s.cellOf (s.sp - 1) ≠ s.cellOf (s.sp - 2)) :=
  ⟨⟨wit_inv, of_all (by decide +kernel), by decide +kernel⟩, { wit_inv with }, of_all (by decide +kernel),
    by decide +kernel⟩

/-- DAA after an addition and after a subtraction. -/
theorem wit_DaaCplScfCcf : (State.reset.setF 0x00).flagN = false ∧ (State.reset.setF 0x40).flagN = true := by decide +kernel

theorem wit_Rotates : RotOp.rlc ∈ [RotOp.rlc, .rrc, .rl, .rr] ∧ RotOp.rr ∈ [RotOp.rlc, .rrc, .rl, .rr] := by decide +kernel

theorem wit_BitTest : 0 < 8 ∧ 7 < 8 := by decide +kernel

theorem wit_ResSet : 0 < 8 ∧ 7 < 8 := by decide +kernel

theorem wit_Calls : 0 < 8 ∧ 7 < 8 := by decide +kernel

/-- The first and the last unused opcode, under each choice of the parameter. -/
theorem wit_NopDiEiUnused :
    (0xD3 : Byte).toNat ∈ [0xD3, 0xDB, 0xDD, 0xE3, 0xE4, 0xEB, 0xEC, 0xED, 0xF4, 0xFC, 0xFD] ∧
    (0xFD : Byte).toNat ∈ [0xD3, 0xDB, 0xDD, 0xE3, 0xE4, 0xEB, 0xEC, 0xED, 0xF4, 0xFC, 0xFD] ∧
    State.reset.params.unusedOpcode = .nop ∧
    ({ State.reset with params := { Params.default with unusedOpcode := .lockup } } : State).params.unusedOpcode = .lockup := by
  decide +kernel

end Sys2Proof.Tests
end

/-! PROOFS. Constants: what no step changes. One relation, kept by each shared operation, then by each part of a step. -/

namespace Sys2Proof.Proofs

open Sys2Proof Sys2Proof.Machine Sys2Proof.Laws

/-- What a step leaves alone: the cartridge, the boot image, the parameters, the joypad lines, and an unmapped boot ROM. -/
structure ConstantsKept (s t : State) : Prop where
  cart : t.cart = s.cart
  bootRom : t.bootRom = s.bootRom
  params : t.params = s.params
  joypIn : t.joypIn = s.joypIn
  unmapped : s.bootMapped = false → t.bootMapped = false

theorem ConstantsKept.refl (s : State) : ConstantsKept s s := ⟨rfl, rfl, rfl, rfl, id⟩

theorem ConstantsKept.trans {s t u : State} (h : ConstantsKept s t) (h' : ConstantsKept t u) : ConstantsKept s u :=
  ⟨h'.cart.trans h.cart, h'.bootRom.trans h.bootRom, h'.params.trans h.params, h'.joypIn.trans h.joypIn,
    fun e => h'.unmapped (h.unmapped e)⟩

/-- An update of a register, a flag, PC or the clock names none of the five. -/
theorem ConstantsKept.update {s t u : State} (h : ConstantsKept s t) (cart : u.cart = t.cart := by rfl)
    (bootRom : u.bootRom = t.bootRom := by rfl) (params : u.params = t.params := by rfl)
    (joypIn : u.joypIn = t.joypIn := by rfl) (mapped : u.bootMapped = t.bootMapped := by rfl) : ConstantsKept s u :=
  h.trans ⟨cart, bootRom, params, joypIn, fun e => mapped.trans e⟩

/-! ### Bus writes -/

theorem mbcWrite_bootMapped (s : State) (a : Nat) (v : Byte) : (s.mbcWrite a v).bootMapped = s.bootMapped := by
  unfold State.mbcWrite
  split
  · rfl
  · repeat' split
    all_goals rfl
  · repeat' split
    all_goals rfl

theorem writeHdma5_bootMapped (s : State) (v : Byte) : (s.writeHdma5 v).bootMapped = s.bootMapped := by
  unfold State.writeHdma5
  split
  · rfl
  · split
    · rfl
    · obtain ⟨m, hm⟩ := vramCopy_eq s.hdmaSource s.hdmaDest ((v.toNat % 128 + 1) * 16) 0 s
      simp only [hm, setPort_bootMapped]

theorem writeDma_bootMapped (s : State) (v : Byte) : (s.writeDma v).bootMapped = s.bootMapped := by
  obtain ⟨m, hm⟩ := oamCopy_eq v 160 0 (s.setPort 0x46 v)
  rw [State.writeDma, hm, setPort_bootMapped]

/-- No port write maps the boot ROM again; port 0x50 can only unmap it (20 R93). -/
theorem writePort_unmapped {s : State} (h : s.bootMapped = false) (p : BitVec 7) (v : Byte) :
    (s.writePort p v).bootMapped = false := by
  unfold State.writePort
  split
  · exact h
  split
  · exact h
  split
  · unfold State.writeIf; split <;> exact h
  split
  · rw [writeDma_bootMapped, h]
  split
  · exact h
  split
  · simp [State.writeBoot, h]
  split
  · rw [writeHdma5_bootMapped, h]
  split
  · exact h
  split
  · exact h
  · exact h

/-- No bus write maps the boot ROM again (20 R70, R93). -/
theorem busWrite_unmapped {s : State} (h : s.bootMapped = false) (a : Word) (v : Byte) :
    (s.busWrite a v).bootMapped = false := by
  cases hr : plainRegion (resolve a)
  case true => rw [(plainKeeps_busWrite s hr v).bootMapped, h]
  case false =>
    unfold State.busWrite
    cases hq : resolve a <;> rw [hq] at hr
    case rom0 | romX => exact (mbcWrite_bootMapped s _ v).trans h
    case io => exact writePort_unmapped h _ v
    all_goals exact absurd hr (by decide)

theorem busWrite_constantsKept (s : State) (a : Word) (v : Byte) : ConstantsKept s (s.busWrite a v) where
  cart := busWrite_cart s a v
  bootRom := busWrite_bootRom s a v
  params := busWrite_params s a v
  joypIn := busWrite_joypIn s a v
  unmapped h := busWrite_unmapped h a v

theorem push16_constantsKept (s : State) (w : Word) : ConstantsKept s (s.push16 w) := by
  rw [push16_eq]
  have high : ConstantsKept s ((s.setSp (s.sp - 1)).busWrite (s.sp - 1) (hiByte w)) :=
    (ConstantsKept.refl s).update.trans (busWrite_constantsKept _ _ _)
  exact (high.update (u := State.setSp _ _)).trans (busWrite_constantsKept _ _ _)

/-! ### The shared operations over registers -/

theorem setR8_constantsKept (s : State) (r : R8) (v : Byte) : ConstantsKept s (s.setR8 r v) := by
  cases r
  case mHL => exact busWrite_constantsKept s s.hl v
  all_goals exact (ConstantsKept.refl s).update

theorem setR16_constantsKept (s : State) (p : R16) (v : Word) : ConstantsKept s (s.setR16 p v) := by
  cases p <;> exact (ConstantsKept.refl s).update

theorem setR16stk_constantsKept (s : State) (p : R16Stk) (v : Word) : ConstantsKept s (s.setR16stk p v) := by
  cases p <;> exact (ConstantsKept.refl s).update

theorem aluStep_constantsKept (s : State) (op : AluOp) (b : Byte) : ConstantsKept s (s.aluStep op b) := by
  cases op <;> exact (ConstantsKept.refl s).update

/-- Every shared operation keeps the constants: those that write memory by `busWrite_constantsKept`, the others name none. -/
theorem shape_constantsKept {s t : State} {r : Result} (h : Shape s r) (hr : r = .next t) : ConstantsKept s t := by
  cases h
  case ldReg | ldImm | incR8 | decR8 | rotR8 | bitReset | bitSet => cases hr; exact (setR8_constantsKept s _ _).update
  case ldAInto | stAStep => cases hr; exact (busWrite_constantsKept s _ _).update
  case ldMemSp => cases hr; exact ((busWrite_constantsKept s _ _).trans (busWrite_constantsKept _ _ _)).update
  case push | call => cases hr; exact (push16_constantsKept s _).update
  case ldImm16 | incR16 | decR16 => cases hr; exact (setR16_constantsKept s _ _).update
  case pop => cases hr; exact ((ConstantsKept.refl s).update.trans (setR16stk_constantsKept s.dropTop _ _)).update
  case aluReg | aluImm => cases hr; exact (aluStep_constantsKept s _ _).update
  case callIf =>
    unfold Machine.callIf at hr
    split at hr <;> cases hr
    · exact (push16_constantsKept s _).update
    · exact (ConstantsKept.refl s).update
  case jumpIf =>
    unfold Machine.jumpIf at hr
    split at hr <;> cases hr <;> exact (ConstantsKept.refl s).update
  case retIf =>
    unfold Machine.retIf at hr
    split at hr <;> cases hr <;> exact (ConstantsKept.refl s).update
  case haltOp =>
    unfold Machine.haltOp at hr
    split at hr <;> cases hr <;> exact (ConstantsKept.refl s).update
  case stopOp =>
    unfold Machine.stopOp at hr
    split at hr <;> cases hr <;> exact (ConstantsKept.refl s).update
  case unusedOp =>
    unfold Machine.unusedOp at hr
    split at hr <;> cases hr
    exact (ConstantsKept.refl s).update
  all_goals cases hr; exact (ConstantsKept.refl s).update

theorem exec_constantsKept {i : Instr} {s t : State} (h : exec i s = .next t) : ConstantsKept s t :=
  shape_constantsKept (exec_shape i s) h

/-! ### The parts of a step -/

theorem interruptCheck_constantsKept (s : State) : ConstantsKept s s.interruptCheck := by
  unfold State.interruptCheck
  split
  · rw [dispatch_eq]
    have cleared : ConstantsKept s { s with haltBug := false } := (ConstantsKept.refl s).update
    have pushed : ConstantsKept s (dispatchPushed s) := cleared.trans (push16_constantsKept _ _)
    exact pushed.update
  · exact ConstantsKept.refl s

theorem haltedStep_constantsKept (s : State) : ConstantsKept s s.haltedStep := by
  have wake : ConstantsKept s s.haltWakeCheck := by
    unfold State.haltWakeCheck
    split <;> exact (ConstantsKept.refl s).update
  exact (wake.update (u := s.haltWakeCheck.tick 4)).trans (interruptCheck_constantsKept _)

theorem stoppedStep_constantsKept (s : State) : ConstantsKept s s.stoppedStep := by
  unfold State.stoppedStep State.stopWakeCheck
  split <;> exact (ConstantsKept.refl s).update

theorem fetch_constantsKept (s : State) : ConstantsKept s s.fetch.2 := (ConstantsKept.refl s).update

theorem finish_constantsKept (s : State) (pend : Bool) (i : Instr) : ConstantsKept s (s.finish pend i) :=
  ((ConstantsKept.refl s).update (u := s.settleEi pend i)).trans (interruptCheck_constantsKept _)

theorem step_constantsKept {s t : State} (h : step s = .next t) : ConstantsKept s t := by
  unfold step at h
  split at h
  · cases h; exact stoppedStep_constantsKept s
  split at h
  · cases h; exact haltedStep_constantsKept s
  · split at h
    · next u hu =>
      cases h
      exact (fetch_constantsKept s).trans ((exec_constantsKept hu).trans (finish_constantsKept u _ _))
    all_goals cases h

/-- Settles O15: every part of a step keeps the constants. -/
theorem constants : Obligations.Constants := by
  intro s t h
  obtain ⟨cart, bootRom, params, joypIn, unmapped⟩ := step_constantsKept h
  exact ⟨cart, bootRom, params, joypIn, unmapped⟩

end Sys2Proof.Proofs

/-! PROOFS. HostEvents: one equation for the HBlank event, and the bit a requested interrupt sets. -/

namespace Sys2Proof.Proofs

open Sys2Proof Sys2Proof.Machine Sys2Proof.Laws

/-- ORing in a shifted 1 sets the bit it is shifted to, and no other. -/
theorem getLsbD_or_one_shiftLeft (v : Byte) {j : Nat} (hj : j < 8) (k : Nat) :
    (v ||| ((1 : Byte) <<< k)).getLsbD j = (decide (j = k) || v.getLsbD j) := by
  rw [BitVec.getLsbD_or, BitVec.getLsbD_shiftLeft, Bool.or_comm]
  rcases Nat.lt_trichotomy j k with h | rfl | h
  · simp [h, h.ne]
  · simp [hj]
  · simp [h.ne', Nat.sub_ne_zero_of_lt h]

/-- HDMA5 after an HBlank's block: the blocks left less one, or 0xFF at the end of the transfer (20 R92). -/
def hblankPort (s : State) : Byte := if s.hdmaBlocks = 0 then 0xFF else (s.hdmaBlocks - 1).setWidth 8

theorem hblankPort_toNat (s : State) :
    (hblankPort s).toNat = if s.hdmaBlocks = 0 then 0xFF else s.hdmaBlocks.toNat - 1 := by
  unfold hblankPort
  split
  · rfl
  · next h =>
    have hpos : s.hdmaBlocks.toNat ≠ 0 := fun e => h (BitVec.eq_of_toNat_eq e)
    have hlt := s.hdmaBlocks.isLt
    simp [BitVec.toNat_sub]
    omega

/-- Without an armed transfer an HBlank does nothing (20 R92). -/
theorem hblank_idle {s : State} (h : s.hdmaActive = false) : s.hblank = s := by simp [State.hblank, h]

/-- What an HBlank of an armed transfer does, in one record (20 R92). -/
theorem hblank_armed {s : State} (h : s.hdmaActive = true) :
    s.hblank = { s.setPort 0x55 (hblankPort s) with
      hdmaSrc := s.hdmaSrc + 16, hdmaDst := vramDest s.hdmaDst 16
      hdmaActive := decide (s.hdmaBlocks ≠ 0), hdmaBlocks := if s.hdmaBlocks = 0 then 0 else s.hdmaBlocks - 1
      vram := (vramCopy s.hdmaSrc s.hdmaDst 16 0 s).vram } := by
  obtain ⟨m, hm⟩ := vramCopy_eq s.hdmaSrc s.hdmaDst 16 0 s
  unfold State.hblank hblankPort
  rw [if_pos h, hm]
  by_cases hb : s.hdmaBlocks = 0#7 <;> simp [hb, h, State.setPort]

/-- Settles O33, event by event; the bytes an HBlank copies are those of `vramCopy_read`. -/
theorem hostEvents : Obligations.HostEvents := by
  refine ⟨fun s k hk => ⟨_, if_pos hk, fun j hj => getLsbD_or_one_shiftLeft s.ifReg hj k⟩,
    fun s k hk => if_neg (Nat.not_lt.mpr hk), fun _ _ _ => rfl, fun _ _ => rfl,
    fun s h => congrArg Host.Outcome.next (hblank_idle h), fun s hi h => ?_⟩
  refine ⟨s.hblank, hblankPort s, rfl, ?_, hblankPort_toNat s, fun hsrc => ?_⟩
  · rw [hblank_armed h, vramDest]
  · obtain ⟨copied, others⟩ := vramCopy_read s.hdmaSrc s.hdmaDst 16 0 s hi.vram (by decide) (by simpa using hsrc)
    rw [hblank_armed h]
    simp only [Nat.zero_add] at copied others
    exact ⟨copied, others⟩

end Sys2Proof.Proofs

/-! PROOFS. ResetValues: what a loaded cartridge is, the one shape a reset's state has under both profiles, and the ports of
that shape; the statement reads its fields off. -/

namespace Sys2Proof.Proofs

open Sys2Proof Sys2Proof.Machine Sys2Proof.Laws

/-! ### The cartridge -/

theorem mbcKindOf_mbc1 {t : Byte} (h : t.toNat ∈ [0x01, 0x02, 0x03]) : mbcKindOf t = some .mbc1 := by
  revert h; revert t; decide

theorem mbcKindOf_mbc5 {t : Byte} (h : t.toNat ∈ [0x19, 0x1A, 0x1B, 0x1C, 0x1D, 0x1E]) : mbcKindOf t = some .mbc5 := by
  revert h; revert t; decide

theorem romBanksOf_eq {b : Byte} {n : Nat} (h : romBanksOf b = some n) : n = 2 * 2 ^ b.toNat := by
  unfold romBanksOf at h
  split at h <;> cases h
  rfl

/-- The RAM sizes as the table of 20 R99. -/
theorem ramSizeOf_eq (b : Byte) : ramSizeOf b = [0, 2048, 8192, 32768, 131072, 65536][b.toNat]? := by
  revert b; decide

/-- What a cartridge that loads is: its kind and sizes are those of its header bytes, its bytes the loader's (20 R99). -/
structure Loaded (img : CartImage) (cart : Cart) (eram : Mem) : Prop where
  kind : mbcKindOf img.typeByte = some cart.kind
  romBanks : romBanksOf img.romSizeByte = some cart.romBanks
  ramSize : ramSizeOf img.ramSizeByte = some cart.ramSize
  rom : cart.rom = Mem.ofCells (cart.romBanks * 16384) img.rom
  eram : eram = Mem.ofCells cart.ramSize img.eram

theorem loadCart_ok {img : CartImage} {cart : Cart} {eram : Mem} (h : loadCart img = .ok (cart, eram)) :
    Loaded img cart eram := by
  unfold loadCart at h
  split at h
  · cases h
  · next kind hkind =>
    split at h
    · next banks ram hbanks hram =>
      split at h <;> cases h
      exact ⟨hkind, hbanks, hram, rfl, rfl⟩
    · cases h

/-! ### The state a reset gives -/

/-- What a profile fixes of its own (10 R58): the register pairs, SP, PC, IF, the boot-disable port, and whether the boot ROM
is mapped. -/
structure ProfileValues where
  af : Word
  bc : Word
  de : Word
  hl : Word
  sp : Word
  pc : Word
  ifReg : Byte
  bootPort : Byte
  bootMapped : Bool

/-- The two columns of 10 R58, as far as they differ. -/
def profileValues (d : Draw) : ResetProfile → ProfileValues
  | .postBoot => ⟨0x1180, 0x0000, 0xFF56, 0x000D, 0xFFFE, 0x0100, 0xE1, 0x11, false⟩
  | .bootRom => ⟨joinBytes (hiByte d.af) (loByte d.af &&& 0xF0), d.bc, d.de, d.hl, d.sp, 0x0000, d.io[0x0F], 0x00, true⟩

/-- The I/O block after a reset: the ports both profiles fix, then IF and the boot-disable port. -/
def resetPorts (d : Draw) (v : ProfileValues) : Vector Byte 128 := ((drawnIo d).set 0x0F v.ifReg).set 0x50 v.bootPort

/-- The state after a reset, from the profile's own values and the loaded cartridge (10 R58, R59; 70 R450). -/
def resetState (boot : Option (List Host.Cell)) (params : Params) (d : Draw) (joyp : Byte) (cart : Cart) (eram : Mem)
    (v : ProfileValues) : State where
  af := v.af
  bc := v.bc
  de := v.de
  hl := v.hl
  sp := v.sp
  pc := v.pc
  ime := false
  eiPending := false
  ie := 0x00
  io := resetPorts d v
  halted := false
  haltBug := false
  stopped := false
  doubleSpeed := false
  key1Armed := false
  cycles := 0
  wram := Mem.ofCells 0x8000 d.wram
  vram := Mem.ofCells 0x4000 d.vram
  oam := Mem.ofCells 160 d.oam
  hram := Mem.ofCells 127 d.hram
  bgPal := Mem.ofCells 64 d.bgPal
  objPal := Mem.ofCells 64 d.objPal
  eram := eram
  bootMapped := v.bootMapped
  bootRom := boot.map (Mem.ofCells 0x900)
  cart := cart
  romBank := 1
  ramBank := 0
  ramEnable := false
  mbc1Mode := .rom
  hdmaSrc := d.hdmaSrc
  hdmaDst := 0x8000 ||| (d.hdmaDst &&& 0x1FF0)
  hdmaActive := false
  hdmaBlocks := d.hdmaBlocks
  joypIn := joyp
  params := params

/-- The BOOT_ROM profile leaves IF as drawn. -/
theorem resetPorts_bootRom (d : Draw) : resetPorts d (profileValues d .bootRom) = (drawnIo d).set 0x50 0x00 := by
  have h : (drawnIo d)[0x0F] = d.io[0x0F] := by simp [drawnIo]
  simp only [resetPorts, profileValues, ← h, Vector.set_getElem_self]

/-- A reset that starts gives `resetState` of a loaded cartridge, under either profile. -/
theorem reset_ok {img : CartImage} {boot : Option (List Host.Cell)} {profile : ResetProfile} {params : Params} {d : Draw}
    {joyp : Byte} {s : State} (h : reset img boot profile params d joyp = .ok s) :
    ∃ cart eram, Loaded img cart eram ∧ s = resetState boot params d joyp cart eram (profileValues d profile) := by
  unfold reset at h
  split at h
  · cases h
  split at h
  · cases h
  · next cart eram hload =>
    refine ⟨cart, eram, loadCart_ok hload, ?_⟩
    cases profile
    case postBoot => cases h; rfl
    case bootRom =>
      cases boot
      case none => cases h
      case some cells =>
        cases h
        rw [resetState, resetPorts_bootRom]
        rfl

/-! ### The ports -/

section Ports

variable {d : Draw} {v : ProfileValues}

/-- A port no column of 10 R58 fixes holds the draw's byte. -/
theorem resetPorts_drawn {p : BitVec 7} (h : p.toNat ∉ [0x00, 0x0F, 0x4F, 0x50, 0x55, 0x70]) :
    (resetPorts d v).get p.toFin = d.io[p.toNat] := by
  simp only [List.mem_cons, List.not_mem_nil, or_false, not_or] at h
  obtain ⟨h00, h0F, h4F, h50, h55, h70⟩ := h
  simp [resetPorts, drawnIo, Vector.get_eq_getElem, Ne.symm h00, Ne.symm h0F, Ne.symm h4F, Ne.symm h50,
    Ne.symm h55, Ne.symm h70]

theorem resetPorts_p1 : (resetPorts d v)[0x00] = d.io[0x00] &&& 0xCF := by simp [resetPorts, drawnIo]
theorem resetPorts_if : (resetPorts d v)[0x0F] = v.ifReg := by simp [resetPorts]
theorem resetPorts_vbk : (resetPorts d v)[0x4F] = 0x00 := by simp [resetPorts, drawnIo]
theorem resetPorts_boot : (resetPorts d v)[0x50] = v.bootPort := by simp [resetPorts]
theorem resetPorts_hdma5 : (resetPorts d v)[0x55] = 0xFF := by simp [resetPorts, drawnIo]
theorem resetPorts_svbk : (resetPorts d v)[0x70] = 0x00 := by simp [resetPorts, drawnIo]

end Ports

/-- Clearing P1's two selector bits leaves the other bits as drawn. -/
theorem getLsbD_and_selectors (v : Byte) {j : Nat} (hj : j < 8) :
    (v &&& 0xCF).getLsbD j = (v.getLsbD j && decide (j ≠ 4 ∧ j ≠ 5)) := by
  have mask : ∀ j < 8, (0xCF : Byte).getLsbD j = decide (j ≠ 4 ∧ j ≠ 5) := by decide
  rw [BitVec.getLsbD_and, mask j hj]

/-! ### What the statement reads off -/

/-- The POST_BOOT column, as far as it differs from the other. -/
theorem reset_postBoot_values {img : CartImage} {boot : Option (List Host.Cell)} {params : Params} {d : Draw} {joyp : Byte}
    {s : State} (h : reset img boot .postBoot params d joyp = .ok s) :
    s.a = 0x11 ∧ s.f = 0x80 ∧ s.b = 0x00 ∧ s.c = 0x00 ∧ s.d = 0xFF ∧ s.e = 0x56 ∧ s.h = 0x00 ∧ s.l = 0x0D ∧
    s.sp = 0xFFFE ∧ s.pc = 0x0100 ∧ s.ifReg = 0xE1 ∧ s.bootMapped = false ∧ s.port 0x50 = 0x11 := by
  obtain ⟨cart, eram, -, rfl⟩ := reset_ok h
  obtain ⟨ha, hf, hb, hc, hd, he, hh, hl⟩ : hiByte 0x1180 = 0x11 ∧ loByte 0x1180 = 0x80 ∧ hiByte 0x0000 = 0x00 ∧
      loByte 0x0000 = 0x00 ∧ hiByte 0xFF56 = 0xFF ∧ loByte 0xFF56 = 0x56 ∧ hiByte 0x000D = 0x00 ∧ loByte 0x000D = 0x0D := by
    decide
  exact ⟨ha, hf, hb, hc, hd, he, hh, hl, rfl, rfl, resetPorts_if, rfl, resetPorts_boot⟩

/-- The BOOT_ROM column, as far as it differs from the other. -/
theorem reset_bootRom_values {img : CartImage} {boot : Option (List Host.Cell)} {params : Params} {d : Draw} {joyp : Byte}
    {s : State} (h : reset img boot .bootRom params d joyp = .ok s) :
    s.f = loByte d.af &&& 0xF0 ∧ s.a = hiByte d.af ∧ s.bc = d.bc ∧ s.de = d.de ∧ s.hl = d.hl ∧ s.sp = d.sp ∧
    s.pc = 0x0000 ∧ s.ifReg = d.io[0x0F] ∧ s.bootMapped = true ∧ s.port 0x50 = 0x00 := by
  obtain ⟨cart, eram, -, rfl⟩ := reset_ok h
  exact ⟨loByte_joinBytes _ _, hiByte_joinBytes _ _, rfl, rfl, rfl, rfl, rfl, resetPorts_if, rfl, resetPorts_boot⟩

/-- Settles O34: every clause is a field of `resetState`, a port of `resetPorts`, or a header byte of the loaded cartridge. -/
theorem resetValues : Obligations.ResetValues := by
  refine ⟨fun _ _ _ _ _ _ h => reset_postBoot_values h, fun _ _ _ _ _ _ h => reset_bootRom_values h, ?_⟩
  intro img boot profile params d joyp s h
  obtain ⟨cart, eram, loaded, rfl⟩ := reset_ok h
  have selectors : ∀ j, j < 8 →
      ((resetState boot params d joyp cart eram (profileValues d profile)).port 0x00).getLsbD j =
        (d.io[0x00].getLsbD j && decide (j ≠ 4 ∧ j ≠ 5)) := fun j hj =>
    (congrArg (BitVec.getLsbD · j) resetPorts_p1).trans (getLsbD_and_selectors _ hj)
  have kind_eq : ∀ {k}, mbcKindOf img.typeByte = some k → cart.kind = k := fun hk =>
    Option.some.inj (loaded.kind.symm.trans hk)
  refine ⟨rfl, rfl, rfl, rfl, rfl, rfl, rfl, rfl, rfl, ?p1Bit4, ?p1Bit5, resetPorts_svbk, resetPorts_vbk, resetPorts_hdma5, rfl,
    (by decide : 0x00 ||| 0x7E ||| 0x00 = (0x7E : Byte)), rfl, rfl, rfl, rfl, loaded.eram,
    fun p hp => resetPorts_drawn hp, ?p1Drawn,
    fun k hk => ofCells_read hk _, fun k hk => ofCells_read hk _, fun k hk => ofCells_read hk _,
    fun k hk => ofCells_read hk _, fun k hk => ⟨ofCells_read hk _, ofCells_read hk _⟩, rfl, rfl, rfl, ?eram, ?rom,
    fun ht => kind_eq (by rw [ht]; rfl), fun ht => kind_eq (mbcKindOf_mbc1 ht), fun ht => kind_eq (mbcKindOf_mbc5 ht),
    romBanksOf_eq loaded.romBanks, (ramSizeOf_eq _).symm.trans loaded.ramSize, ?noBoot, ?boot, rfl, rfl⟩
  case p1Bit4 => rw [selectors 4 (by decide)]; simp
  case p1Bit5 => rw [selectors 5 (by decide)]; simp
  case p1Drawn => intro j hj h4 h5; rw [selectors j hj]; simp [h4, h5]
  case eram => intro k hk; exact loaded.eram ▸ ofCells_read hk _
  case rom => intro k hk; exact loaded.rom ▸ ofCells_read hk _
  case noBoot => rintro rfl; rfl
  case boot => rintro cells rfl; exact ⟨_, rfl, fun k hk => ofCells_read hk _⟩

end Sys2Proof.Proofs

/-! PROOFS. StepKeepsInv: the invariant through every shared operation, then through each part of a step. -/

namespace Sys2Proof.Proofs

open Sys2Proof Sys2Proof.Machine Sys2Proof.Laws

/-- A conditional answer is one of its two states. -/
theorem next_of_ite {c : Prop} [Decidable c] {a b t : State} (h : (if c then .next a else .next b : Result) = .next t) :
    t = a ∨ t = b := by
  split at h <;> cases h
  · exact .inl rfl
  · exact .inr rfl

/-! ### Meanings -/

/-- Clearing `ei_pending` keeps the invariant. -/
theorem inv_clearEi {s : State} (h : s.Inv) : ({ s with eiPending := false } : State).Inv :=
  { h with eiRuns := nofun }

theorem popPc_inv {s : State} (h : s.Inv) : s.popPc.Inv := setPc_inv (setSp_inv h _) _

theorem aluStep_inv {s : State} (h : s.Inv) (op : AluOp) (b : Byte) : (s.aluStep op b).Inv := by
  unfold State.aluStep State.putFlags
  split
  · exact setFlags_inv (setR8_inv h .a _) _ _ _ _
  · exact setFlags_inv h _ _ _ _

/-- Every meaning run by a step keeps the invariant, `ei_pending` apart: the step writes it after the meaning, and HALT and
STOP may stall the engine while it is still set (10 R42; 30 R147). -/
theorem shape_inv {s t : State} {r : Result} (hs : Shape s r) (hr : r = .next t) (h : s.Inv) (halted : s.halted = false)
    (stopped : s.stopped = false) (noBug : s.haltBug = false) : ({ t with eiPending := false } : State).Inv := by
  cases hs
  case haltOp =>
    obtain rfl | rfl := next_of_ite hr
    · exact { h with oneStall := by simp [halted], bugRuns := fun _ => ⟨halted, stopped⟩, eiRuns := nofun }
    · exact { h with oneStall := by simp [stopped], bugRuns := by simp [noBug], eiRuns := nofun }
  case stopOp =>
    obtain rfl | rfl := next_of_ite hr
    · exact { h with eiRuns := nofun }
    · exact { h with oneStall := by simp [halted], bugRuns := by simp [noBug], eiRuns := nofun }
  all_goals refine inv_clearEi ?_
  case ldReg | ldImm | bitReset | bitSet => cases hr; exact tick_inv (setR8_inv h _ _) _
  case incR8 | decR8 | rotR8 => cases hr; exact tick_inv (setFlags_inv (setR8_inv h _ _) _ _ _ _) _
  case ldAFrom => cases hr; exact tick_inv (setR8_inv h .a _) _
  case ldAStep => cases hr; exact tick_inv (setHl_inv (setR8_inv h .a _) _) _
  case daaOp | cplOp | rotA => cases hr; exact tick_inv (setFlags_inv (setR8_inv h .a _) _ _ _ _) _
  case scfOp | ccfOp | bitTest => cases hr; exact tick_inv (setFlags_inv h _ _ _ _) _
  case aluReg | aluImm => cases hr; exact tick_inv (aluStep_inv h _ _) _
  case ldAInto => cases hr; exact tick_inv (busWrite_inv h _ _) _
  case stAStep => cases hr; exact tick_inv (setHl_inv (busWrite_inv h _ _) _) _
  case ldMemSp => cases hr; exact tick_inv (busWrite_inv (busWrite_inv h _ _) _ _) _
  case ldImm16 | incR16 | decR16 => cases hr; exact tick_inv (setR16_inv h _ _) _
  case ldSpHl => cases hr; exact tick_inv (setSp_inv h _) _
  case addHl | ldHlSp => cases hr; exact tick_inv (setFlags_inv (setHl_inv h _) _ _ _ _) _
  case addSp => cases hr; exact tick_inv (setFlags_inv (setSp_inv h _) _ _ _ _) _
  case push => cases hr; exact tick_inv (push16_inv h _) _
  case pop => cases hr; exact tick_inv (setR16stk_inv (setSp_inv h _) _ _) _
  case jump => cases hr; exact tick_inv (setPc_inv h _) _
  case jumpIf =>
    obtain rfl | rfl := next_of_ite hr
    · exact tick_inv (setPc_inv h _) _
    · exact tick_inv h _
  case call => cases hr; exact tick_inv (setPc_inv (push16_inv h _) _) _
  case callIf =>
    obtain rfl | rfl := next_of_ite hr
    · exact tick_inv (setPc_inv (push16_inv h _) _) _
    · exact tick_inv h _
  case retOp => cases hr; exact tick_inv (popPc_inv h) _
  case retIf =>
    obtain rfl | rfl := next_of_ite hr
    · exact tick_inv (popPc_inv h) _
    · exact tick_inv h _
  case retiOp => cases hr; exact tick_inv (setIme_inv (popPc_inv h) _) _
  case diOp => cases hr; exact tick_inv (setIme_inv h _) _
  case nopOp | eiOp => cases hr; exact tick_inv h _
  case unusedOp =>
    unfold Machine.unusedOp at hr
    split at hr <;> cases hr
    exact tick_inv h _

/-! ### The parts of a step -/

theorem fetch_inv {s : State} (h : s.Inv) : s.fetch.2.Inv := { h with bugRuns := nofun }

/-- The end of a RUN step: only EI leaves `ei_pending` set, and the engine is still running after it. -/
theorem finish_inv {t : State} {i : Instr} (h : ({ t with eiPending := false } : State).Inv)
    (ei : i.isEi = true → t.halted = false ∧ t.stopped = false) (pend : Bool) : (t.finish pend i).Inv :=
  interruptCheck_inv { h with eiRuns := ei }

theorem isEi_iff {i : Instr} : i.isEi = true ↔ i = .ei := by
  unfold Instr.isEi
  split <;> simp_all

theorem haltedStep_inv {s : State} (h : s.Inv) : s.haltedStep.Inv := by
  have wake : s.haltWakeCheck.Inv := by
    unfold State.haltWakeCheck
    split
    · exact { h with
        oneStall := by simp
        bugRuns := fun e => ⟨rfl, (h.bugRuns e).2⟩
        eiRuns := fun e => ⟨rfl, (h.eiRuns e).2⟩ }
    · exact h
  exact interruptCheck_inv (tick_inv wake 4)

theorem stoppedStep_inv {s : State} (h : s.Inv) : s.stoppedStep.Inv := by
  have wake : s.stopWakeCheck.Inv := by
    unfold State.stopWakeCheck
    split
    · exact { h with
        oneStall := by simp
        bugRuns := fun e => ⟨(h.bugRuns e).1, rfl⟩
        eiRuns := fun e => ⟨(h.eiRuns e).1, rfl⟩ }
    · exact h
  exact tick_inv wake 4

/-- Settles O13: every part of a step keeps the invariant; a meaning up to `ei_pending`, which the step then writes. -/
theorem stepKeepsInv : Obligations.StepKeepsInv := by
  intro s t h hstep
  unfold step at hstep
  split at hstep
  · cases hstep; exact stoppedStep_inv h
  next stopped =>
  split at hstep
  · cases hstep; exact haltedStep_inv h
  next halted =>
  simp only [Bool.not_eq_true] at stopped halted
  split at hstep
  · next u hexec =>
    cases hstep
    refine finish_inv (shape_inv (exec_shape _ _) hexec (fetch_inv h) halted stopped rfl) (fun e => ?_) _
    rw [isEi_iff.mp e] at hexec
    cases hexec
    exact ⟨halted, stopped⟩
  all_goals cases hstep

end Sys2Proof.Proofs

/-! PROOFS. ResetInv: what a reset's cartridge and boot image meet, the invariant of `resetState`, and the host events. -/

namespace Sys2Proof.Proofs

open Sys2Proof Sys2Proof.Machine Sys2Proof.Laws

theorem romBanksOf_pow {b : Byte} {n : Nat} (h : romBanksOf b = some n) : ∃ k ≤ 8, n = 2 * 2 ^ k := by
  unfold romBanksOf at h
  split at h <;> cases h
  next hb => exact ⟨_, hb, rfl⟩

theorem ramSizeOf_mem {b : Byte} {n : Nat} (h : ramSizeOf b = some n) : n ∈ [0, 2048, 8192, 32768, 65536, 131072] := by
  unfold ramSizeOf at h
  repeat' split at h
  all_goals cases h
  all_goals decide

/-- A cartridge that loads is one that 20 R99 accepts. -/
theorem loadCart_cartOk {img : CartImage} {cart : Cart} {eram : Mem} (h : loadCart img = .ok (cart, eram)) : cart.Ok := by
  unfold loadCart at h
  split at h
  · cases h
  split at h
  · next kind _ _ _ banks ram hbanks hram =>
    split at h <;> cases h
    next hfit =>
    refine ⟨romBanksOf_pow hbanks, ramSizeOf_mem hram, fun hkind => ?_, ofCells_wf _ _⟩
    simp only [not_or, not_and] at hfit
    simpa using hfit.2 hkind
  · cases h

/-- A reset that starts has loaded its cartridge, and maps the boot ROM only where there is an image (70 R450). -/
theorem reset_loads {img : CartImage} {boot : Option (List Host.Cell)} {profile : ResetProfile} {params : Params} {d : Draw}
    {joyp : Byte} {s : State} (h : reset img boot profile params d joyp = .ok s) :
    loadCart img = .ok (s.cart, s.eram) ∧ (s.bootMapped = true → s.bootRom.isSome = true) := by
  unfold reset at h
  split at h
  · cases h
  split at h
  · cases h
  next hload =>
  cases profile
  case postBoot => cases h; exact ⟨hload, nofun⟩
  case bootRom =>
    cases boot <;> cases h
    exact ⟨hload, fun _ => rfl⟩

/-- Both profiles leave F's low nibble 0 (10 R22, R58, R59). -/
theorem profileValues_fLow (d : Draw) (profile : ResetProfile) : loByte (profileValues d profile).af &&& 0x0F = 0 := by
  cases profile
  case postBoot => exact (by decide : loByte 0x1180 &&& 0x0F = 0)
  case bootRom => simp [profileValues]

theorem reset_inv {img : CartImage} {boot : Option (List Host.Cell)} {profile : ResetProfile} {params : Params} {d : Draw}
    {joyp : Byte} {s : State} (h : reset img boot profile params d joyp = .ok s) : s.Inv := by
  obtain ⟨hload, boot⟩ := reset_loads h
  obtain ⟨cart, eram, loaded, rfl⟩ := reset_ok h
  exact {
    wram := ofCells_wf _ _
    vram := ofCells_wf _ _
    oam := ofCells_wf _ _
    hram := ofCells_wf _ _
    bgPal := ofCells_wf _ _
    objPal := ofCells_wf _ _
    eram := loaded.eram ▸ ofCells_wf _ _
    cart := loadCart_cartOk hload
    fLow := profileValues_fLow d profile
    oneStall := nofun
    bugRuns := nofun
    eiRuns := nofun
    mbc1Rom := fun _ => (by decide : (1 : BitVec 9).toNat < 128 ∧ (1 : BitVec 9).toNat % 32 ≠ 0)
    mbc1Ram := fun _ => (by decide : (0 : BitVec 4).toNat < 4)
    hdmaDst := hdmaDest_block d.hdmaDst
    boot := boot }

/-- One block of an armed transfer keeps the invariant: the destination moves on by a block (20 R92). -/
theorem hblank_inv {s : State} (h : s.Inv) : s.hblank.Inv := by
  cases armed : s.hdmaActive
  case false => rw [hblank_idle armed]; exact h
  case true =>
    rw [hblank_armed armed]
    exact { h with
      vram := (vramCopy_inv s.hdmaSrc s.hdmaDst 16 0 s h).vram
      hdmaDst := vramDest_block s.hdmaDst 16 h.hdmaDst rfl }

theorem hostEvent_inv {ev : HostEvent} {s t : State} (h : s.Inv) (hev : hostEvent ev s = .next t) : t.Inv := by
  cases ev
  case requestInterrupt i =>
    simp only [hostEvent, State.requestInterrupt] at hev
    split at hev <;> cases hev
    exact setPort_inv h _ _
  case devicePortWrite p v => cases hev; exact setPort_inv h p v
  case hblank => cases hev; exact hblank_inv h
  case setJoypad lines => cases hev; exact { h with }

/-- Settles O14; State.reset is the reset of the erased cartridge with every drawn bit 1. -/
theorem resetInv : Obligations.ResetInv :=
  have start : reset erasedCart none .postBoot Params.default onesDraw 0xFF = .ok State.reset := rfl
  ⟨reset_inv start, fun _ _ _ _ _ _ _ h => reset_inv h, fun _ _ _ h hev => hostEvent_inv h hev⟩

end Sys2Proof.Proofs

/-! PROOFS. EngineBitWriters and FlagWriters: what each instruction outside the few named ones leaves. One case split over the
instructions says which operations write F; the rest is by cases on the operations. -/

namespace Sys2Proof.Proofs

open Sys2Proof Sys2Proof.Machine Sys2Proof.Laws

/-! ### The two relations -/

/-- No engine bit changes (10 R27, R31-R34). -/
structure EngineKept (s t : State) : Prop where
  ime : t.ime = s.ime := by rfl
  eiPending : t.eiPending = s.eiPending := by rfl
  halted : t.halted = s.halted := by rfl
  haltBug : t.haltBug = s.haltBug := by rfl
  stopped : t.stopped = s.stopped := by rfl
  doubleSpeed : t.doubleSpeed = s.doubleSpeed := by rfl

/-- Neither an engine bit nor F changes. -/
structure QuietKept (s t : State) : Prop extends EngineKept s t where
  f : t.f = s.f := by rfl

theorem EngineKept.trans {s t u : State} (h : EngineKept s t) (h' : EngineKept t u) : EngineKept s u :=
  ⟨h'.ime.trans h.ime, h'.eiPending.trans h.eiPending, h'.halted.trans h.halted, h'.haltBug.trans h.haltBug,
    h'.stopped.trans h.stopped, h'.doubleSpeed.trans h.doubleSpeed⟩

theorem QuietKept.trans {s t u : State} (h : QuietKept s t) (h' : QuietKept t u) : QuietKept s u :=
  ⟨h.toEngineKept.trans h'.toEngineKept, h'.f.trans h.f⟩

theorem QuietKept.tick {s t : State} (h : QuietKept s t) (k : Nat) : QuietKept s (t.tick k) := h.trans {}
theorem QuietKept.setPc {s t : State} (h : QuietKept s t) (v : Word) : QuietKept s (t.setPc v) := h.trans {}
theorem QuietKept.setHl {s t : State} (h : QuietKept s t) (v : Word) : QuietKept s (t.setHl v) := h.trans {}

theorem busWrite_quiet (s : State) (a : Word) (v : Byte) : QuietKept s (s.busWrite a v) where
  ime := busWrite_ime s a v
  eiPending := busWrite_eiPending s a v
  halted := busWrite_halted s a v
  haltBug := busWrite_haltBug s a v
  stopped := busWrite_stopped s a v
  doubleSpeed := busWrite_doubleSpeed s a v
  f := congrArg loByte (busWrite_af s a v)

theorem push16_quiet (s : State) (w : Word) : QuietKept s (s.push16 w) where
  ime := push16_ime s w
  eiPending := push16_eiPending s w
  halted := push16_halted s w
  haltBug := push16_haltBug s w
  stopped := push16_stopped s w
  doubleSpeed := push16_doubleSpeed s w
  f := congrArg loByte (push16_af s w)

theorem setR8_quiet (s : State) (r : R8) (v : Byte) : QuietKept s (s.setR8 r v) := by
  cases r
  case mHL => exact busWrite_quiet s s.hl v
  all_goals exact { f := f_setR8_all s _ v }

theorem setR16_quiet (s : State) (p : R16) (v : Word) : QuietKept s (s.setR16 p v) := by
  cases p <;> exact {}

theorem setR16stk_quiet (s : State) {p : R16Stk} (hp : p ≠ .af) (v : Word) : QuietKept s (s.setR16stk p v) := by
  cases p
  case af => exact absurd rfl hp
  all_goals exact {}

/-! ### The operations, by whether they write F -/

/-- What an instruction other than DI, RETI, HALT and STOP does from a state: one of the shared operations that leave F
(`false`), or an operation that writes F (`true`): POP AF, or any other, which sets the flags last. -/
inductive FlagEffect (s : State) : Bool → Result → Prop
  | bitReset (b : Nat) (r : R8) (k : Nat) : FlagEffect s false (Machine.bitReset b r k s)
  | bitSet (b : Nat) (r : R8) (k : Nat) : FlagEffect s false (Machine.bitSet b r k s)
  | ldReg (dst src : R8) (k : Nat) : FlagEffect s false (Machine.ldReg dst src k s)
  | ldImm (dst : R8) (n : Byte) (k : Nat) : FlagEffect s false (Machine.ldImm dst n k s)
  | ldAFrom (addr : Word) (k : Nat) : FlagEffect s false (Machine.ldAFrom addr k s)
  | ldAInto (addr : Word) (k : Nat) : FlagEffect s false (Machine.ldAInto addr k s)
  | ldAStep (delta : Word) (k : Nat) : FlagEffect s false (Machine.ldAStep delta k s)
  | stAStep (delta : Word) (k : Nat) : FlagEffect s false (Machine.stAStep delta k s)
  | ldImm16 (p : R16) (nn : Word) (k : Nat) : FlagEffect s false (Machine.ldImm16 p nn k s)
  | ldMemSp (addr : Word) (k : Nat) : FlagEffect s false (Machine.ldMemSp addr k s)
  | ldSpHl (k : Nat) : FlagEffect s false (Machine.ldSpHl k s)
  | incR16 (p : R16) (k : Nat) : FlagEffect s false (Machine.incR16 p k s)
  | decR16 (p : R16) (k : Nat) : FlagEffect s false (Machine.decR16 p k s)
  | push (p : R16Stk) (k : Nat) : FlagEffect s false (Machine.push p k s)
  | pop (p : R16Stk) (k : Nat) (hp : p ≠ .af) : FlagEffect s false (Machine.pop p k s)
  | jump (target : Word) (k : Nat) : FlagEffect s false (Machine.jump target k s)
  | jumpIf (cond : Cond) (target : Word) (taken k : Nat) : FlagEffect s false (Machine.jumpIf cond target taken k s)
  | call (target : Word) (k : Nat) : FlagEffect s false (Machine.call target k s)
  | callIf (cond : Cond) (target : Word) (taken k : Nat) : FlagEffect s false (Machine.callIf cond target taken k s)
  | retOp (k : Nat) : FlagEffect s false (Machine.retOp k s)
  | retIf (cond : Cond) (taken k : Nat) : FlagEffect s false (Machine.retIf cond taken k s)
  | nopOp (k : Nat) : FlagEffect s false (Machine.nopOp k s)
  | eiOp (k : Nat) : FlagEffect s false (Machine.eiOp k s)
  | unusedOp (k : Nat) : FlagEffect s false (Machine.unusedOp k s)
  | popAf (k : Nat) : FlagEffect s true (Machine.pop .af k s)
  | setsFlags (u : State) (z n h c : Bool) (k : Nat) (hu : EngineKept s u) :
      FlagEffect s true (.next ((u.setFlags z n h c).tick k))

/-- The encodings `FlagWriters` names: those of `flagOpcode`, and CB with a second byte below 0x80. -/
def flagBytes : List Byte → Bool
  | [] => false
  | o :: bs => flagOpcode o || (o == 0xCB && bs.any fun sub => decide (sub.toNat < 0x80))

/-- The four instructions whose own meaning writes an engine bit. -/
def writesEngine : Instr → Bool
  | .di | .reti | .halt | .stop _ => true
  | _ => false

theorem writesEngine_iff {i : Instr} : writesEngine i = true ↔ i = .di ∨ i = .reti ∨ i = .halt ∨ ∃ x, i = .stop x := by
  unfold writesEngine
  split <;> simp_all

/-- Every other instruction, by its encoding. -/
theorem exec_flagEffect {i : Instr} (s : State) (hi : writesEngine i = false) :
    FlagEffect s (flagBytes (encode i)) (exec i s) := by
  cases i
  case di | reti | halt | stop => cases hi
  case ld_MemHLInc_A | ld_MemHLDec_A => exact .stAStep _ _
  case ld_A_MemHLInc | ld_A_MemHLDec => exact .ldAStep _ _
  case push_BC | push_DE | push_HL | push_AF => exact .push _ _
  case pop_BC | pop_DE | pop_HL => exact .pop _ _ (by decide)
  case pop_AF => exact .popAf _
  case call_a16 | rst_00 | rst_08 | rst_10 | rst_18 | rst_20 | rst_28 | rst_30 | rst_38 => exact .call _ _
  case call_NZ_a16 | call_Z_a16 | call_NC_a16 | call_C_a16 => exact .callIf _ _ _ _
  case jr_e8 | jp_a16 | jp_HL => exact .jump _ _
  case jr_NZ_e8 | jr_Z_e8 | jr_NC_e8 | jr_C_e8 | jp_NZ_a16 | jp_Z_a16 | jp_NC_a16 | jp_C_a16 => exact .jumpIf _ _ _ _
  case ret => exact .retOp _
  case ret_NZ | ret_Z | ret_NC | ret_C => exact .retIf _ _ _
  case inc_MemHL | dec_MemHL | rlc_MemHL | rrc_MemHL | rl_MemHL | rr_MemHL | sla_MemHL | sra_MemHL | swap_MemHL | srl_MemHL =>
    exact .setsFlags _ _ _ _ _ _ (busWrite_quiet s s.hl _).toEngineKept
  -- What is left either sets the flags last, or is an operation that leaves F.
  all_goals first | exact .setsFlags _ _ _ _ _ _ (by exact {}) | constructor

theorem flagEffect_quiet {s t : State} {r : Result} (h : FlagEffect s false r) (hr : r = .next t) : QuietKept s t := by
  cases h
  case ldReg | ldImm | bitReset | bitSet => cases hr; exact (setR8_quiet s _ _).tick _
  case ldAFrom => cases hr; exact (setR8_quiet s .a _).tick _
  case ldAStep => cases hr; exact ((setR8_quiet s .a _).setHl _).tick _
  case ldAInto => cases hr; exact (busWrite_quiet s _ _).tick _
  case stAStep => cases hr; exact ((busWrite_quiet s _ _).setHl _).tick _
  case ldMemSp => cases hr; exact ((busWrite_quiet s _ _).trans (busWrite_quiet _ _ _)).tick _
  case ldImm16 | incR16 | decR16 => cases hr; exact (setR16_quiet s _ _).tick _
  case push => cases hr; exact (push16_quiet s _).tick _
  case pop p k hp =>
    cases hr
    have drop : QuietKept s s.dropTop := {}
    exact (drop.trans (setR16stk_quiet s.dropTop hp _)).tick k
  case call => cases hr; exact ((push16_quiet s _).setPc _).tick _
  case callIf =>
    obtain rfl | rfl := next_of_ite hr
    · exact ((push16_quiet s _).setPc _).tick _
    · exact {}
  case jumpIf | retIf => obtain rfl | rfl := next_of_ite hr <;> exact {}
  case unusedOp =>
    unfold Machine.unusedOp at hr
    split at hr <;> cases hr
    exact {}
  all_goals cases hr; exact {}

theorem flagEffect_engineKept {s t : State} {b : Bool} {r : Result} (h : FlagEffect s b r) (hr : r = .next t) :
    EngineKept s t := by
  cases b
  case false => exact (flagEffect_quiet h hr).toEngineKept
  case true =>
    cases h
    case popAf => cases hr; exact {}
    case setsFlags hu => cases hr; exact hu.trans {}

/-- Settles O17: outside DI, RETI, HALT and STOP no engine bit changes, and each of the four writes its own only. -/
theorem engineBitWriters : Obligations.EngineBitWriters := by
  intro i s t h
  cases hw : writesEngine i
  case false =>
    obtain ⟨ime, eiPending, halted, haltBug, stopped, doubleSpeed⟩ := flagEffect_engineKept (exec_flagEffect s hw) h
    exact ⟨fun _ _ => ime, eiPending, fun _ => ⟨halted, haltBug⟩, fun _ => ⟨stopped, doubleSpeed⟩⟩
  case true =>
    obtain rfl | rfl | rfl | ⟨x, rfl⟩ := writesEngine_iff.mp hw
    · cases h; exact ⟨fun hi => absurd rfl hi, rfl, fun _ => ⟨rfl, rfl⟩, fun _ => ⟨rfl, rfl⟩⟩
    · cases h; exact ⟨fun _ hi => absurd rfl hi, rfl, fun _ => ⟨rfl, rfl⟩, fun _ => ⟨rfl, rfl⟩⟩
    · obtain rfl | rfl := next_of_ite h <;>
        exact ⟨fun _ _ => rfl, rfl, fun hi => absurd rfl hi, fun _ => ⟨rfl, rfl⟩⟩
    · obtain rfl | rfl := next_of_ite h <;>
        exact ⟨fun _ _ => rfl, rfl, fun _ => ⟨rfl, rfl⟩, fun hi => absurd rfl (hi x)⟩

theorem flagBytes_eq_false {o : Byte} {bs : List Byte} (ho : flagOpcode o = false)
    (hcb : o = 0xCB → ∀ sub ∈ bs, 0x80 ≤ sub.toNat) : flagBytes (o :: bs) = false := by
  simpa [flagBytes, ho] using hcb

/-- Settles O18: the four engine instructions do not touch AF, and every other is classed by its encoding. -/
theorem flagWriters : Obligations.FlagWriters := by
  intro i s t o bs h henc ho hcb
  cases hw : writesEngine i
  case false =>
    have effect := exec_flagEffect s hw
    rw [henc, flagBytes_eq_false ho hcb] at effect
    exact (flagEffect_quiet effect h).f
  case true =>
    obtain rfl | rfl | rfl | ⟨x, rfl⟩ := writesEngine_iff.mp hw
    · cases h; rfl
    · cases h; rfl
    · obtain rfl | rfl := next_of_ite h <;> rfl
    · obtain rfl | rfl := next_of_ite h <;> rfl

end Sys2Proof.Proofs

/-! PROOFS. The windows of the router: one equation per region for a read and for a write, and the address of a window's
k-th byte. RegionTable, ReadAfterWrite, WramWindows, StorageWindows, EramAndUnusable and StackRoundTrip follow from them. -/

namespace Sys2Proof.Proofs

open Sys2Proof Sys2Proof.Machine Sys2Proof.Laws

/-! ### The region table -/

/-- The table's entry for a region, from the region's range. -/
def regionRow (r : Region) : RegionRow := ⟨r, (regionRange r).1, (regionRange r).2 - 1⟩

theorem regionRow_mem (r : Region) : regionRow r ∈ regionTable := by cases r <;> decide

/-- The table holds no other entry. -/
theorem eq_regionRow_of_mem : ∀ e ∈ regionTable, e = regionRow e.id := by decide

theorem regionRange_pos (r : Region) : 0 < (regionRange r).2 := by cases r <;> decide

/-- Settles O21: the entry of an address is that of its region's range, and the ranges do not meet. -/
theorem regionTable : Obligations.RegionTable := by
  refine ⟨by decide, fun a => ⟨regionRow (resolve a), regionRow_mem _, ?_, ?_, rfl, fun e he hfirst hlast => ?_⟩⟩
  · exact (resolve_range a).1
  · exact Nat.le_sub_one_of_lt (resolve_range a).2
  · rw [eq_regionRow_of_mem e he] at hfirst hlast
    rw [eq_regionRow_of_mem e he, resolve_of_range hfirst (Nat.lt_of_le_sub_one (regionRange_pos _) hlast)]

/-! ### Reads and writes by region -/

section Windows

variable {s : State} {a : Word}

theorem busRead_rom (h : resolve a = .rom0 ∨ resolve a = .romX) : s.busRead a = s.romRead a.toNat := by
  unfold State.busRead; rcases h with h | h <;> rw [h]

theorem busWrite_rom (h : resolve a = .rom0 ∨ resolve a = .romX) (v : Byte) : s.busWrite a v = s.mbcWrite a.toNat v := by
  unfold State.busWrite; rcases h with h | h <;> rw [h]

theorem busRead_vramWindow (h : resolve a = .vram) : s.busRead a = s.vram.read (s.vramIndex (a.toNat - 0x8000)) := by
  rw [State.busRead, h]

theorem busWrite_vramWindow (h : resolve a = .vram) (v : Byte) :
    s.busWrite a v = { s with vram := s.vram.write (s.vramIndex (a.toNat - 0x8000)) v } := by
  rw [State.busWrite, h]

theorem busRead_eramWindow (h : resolve a = .eram) : s.busRead a = s.eramRead a.toNat := by rw [State.busRead, h]

theorem busWrite_eramWindow (h : resolve a = .eram) (v : Byte) : s.busWrite a v = s.eramWrite a.toNat v := by
  rw [State.busWrite, h]

theorem busRead_wramWindow (h : resolve a = .wram0 ∨ resolve a = .wramX) :
    s.busRead a = s.wram.read (s.wramIndex a.toNat) := by
  unfold State.busRead; rcases h with h | h <;> rw [h]

theorem busWrite_wramWindow (h : resolve a = .wram0 ∨ resolve a = .wramX) (v : Byte) :
    s.busWrite a v = { s with wram := s.wram.write (s.wramIndex a.toNat) v } := by
  unfold State.busWrite; rcases h with h | h <;> rw [h]

theorem busRead_echoWindow (h : resolve a = .echo) : s.busRead a = s.wram.read (s.wramIndex (a.toNat - 0x2000)) := by
  rw [State.busRead, h]

theorem busWrite_echoWindow (h : resolve a = .echo) (v : Byte) :
    s.busWrite a v = { s with wram := s.wram.write (s.wramIndex (a.toNat - 0x2000)) v } := by
  rw [State.busWrite, h]

theorem busRead_oamWindow (h : resolve a = .oam) : s.busRead a = s.oam.read (a.toNat - 0xFE00) := by rw [State.busRead, h]

theorem busWrite_oamWindow (h : resolve a = .oam) (v : Byte) :
    s.busWrite a v = { s with oam := s.oam.write (a.toNat - 0xFE00) v } := by
  rw [State.busWrite, h]

theorem busRead_unusable (h : resolve a = .unusable) : s.busRead a = s.unusableRead a.toNat := by rw [State.busRead, h]

theorem busWrite_unusable (h : resolve a = .unusable) (v : Byte) : s.busWrite a v = s := by rw [State.busWrite, h]

theorem busRead_hramWindow (h : resolve a = .hram) : s.busRead a = s.hram.read (a.toNat - 0xFF80) := by
  rw [State.busRead, h]

theorem busWrite_hramWindow (h : resolve a = .hram) (v : Byte) :
    s.busWrite a v = { s with hram := s.hram.write (a.toNat - 0xFF80) v } := by
  rw [State.busWrite, h]

theorem busRead_ie (h : resolve a = .ie) : s.busRead a = s.ie := by rw [State.busRead, h]

theorem busWrite_ie (h : resolve a = .ie) (v : Byte) : s.busWrite a v = { s with ie := v } := by rw [State.busWrite, h]

/-- External RAM that is absent or disabled (20 R100, R111). -/
theorem eramOpen_eq_false (h : s.cart.kind = .romOnly ∨ s.cart.ramSize = 0 ∨ s.ramEnable = false) :
    s.eramOpen = false := by
  unfold State.eramOpen
  rcases h with h | h | h <;> simp [h]

theorem eramOpen_eq_true (hk : s.cart.kind ≠ .romOnly) (hr : s.cart.ramSize ≠ 0) (he : s.ramEnable = true) :
    s.eramOpen = true := by
  simp [State.eramOpen, hk, hr, he]

theorem eramRead_open (h : s.eramOpen = true) (n : Nat) : s.eramRead n = s.eram.read (s.eramIndex n) := if_pos h

theorem eramWrite_open (h : s.eramOpen = true) (n : Nat) (v : Byte) :
    s.eramWrite n v = { s with eram := s.eram.write (s.eramIndex n) v } := if_pos h

theorem eramRead_closed (h : s.eramOpen = false) (n : Nat) : s.eramRead n = 0xFF := by simp [State.eramRead, h]

theorem eramWrite_closed (h : s.eramOpen = false) (n : Nat) (v : Byte) : s.eramWrite n v = s := by
  simp [State.eramWrite, h]

end Windows

/-! ### Read after write -/

/-- A write to plain storage does not move the cell its own address shows, so a read gives the byte written (20 R114). -/
theorem busRead_busWrite_same {s : State} {a : Word} (hi : s.Inv)
    (ha : resolve a ∈ [.vram, .wram0, .wramX, .echo, .oam, .hram, .ie] ∨ (resolve a = .eram ∧ s.eramOpen = true))
    (v : Byte) :
    (s.busWrite a v).busRead a = v := by
  cases hr : resolve a
  case vram => rw [busWrite_vramWindow hr, busRead_vramWindow hr]; exact read_write_wf hi.vram _ _
  case wram0 => rw [busWrite_wramWindow (.inl hr), busRead_wramWindow (.inl hr)]; exact read_write_wf hi.wram _ _
  case wramX => rw [busWrite_wramWindow (.inr hr), busRead_wramWindow (.inr hr)]; exact read_write_wf hi.wram _ _
  case echo => rw [busWrite_echoWindow hr, busRead_echoWindow hr]; exact read_write_wf hi.wram _ _
  case oam => rw [busWrite_oamWindow hr, busRead_oamWindow hr]; exact read_write_wf hi.oam _ _
  case hram => rw [busWrite_hramWindow hr, busRead_hramWindow hr]; exact read_write_wf hi.hram _ _
  case ie => rw [busWrite_ie hr, busRead_ie hr]
  case eram =>
    have ho : s.eramOpen = true := by simpa [hr] using ha
    rw [busWrite_eramWindow hr, busRead_eramWindow hr, eramWrite_open ho, eramRead_open (by exact ho)]
    exact read_write_wf hi.eram _ _
  all_goals simp [hr] at ha

/-- Settles O22. -/
theorem readAfterWrite : Obligations.ReadAfterWrite := fun _ _ v hi ha =>
  busRead_busWrite_same hi (ha.imp_right fun ⟨hr, hk, hsize, he⟩ => ⟨hr, eramOpen_eq_true hk hsize he⟩) v

theorem plainRegion_of_mem {r : Region} (h : r ∈ [.vram, .wram0, .wramX, .echo, .oam, .hram, .ie]) :
    plainRegion r = true := by
  revert r; decide

/-- Settles O41: the pop's low byte is the one written last, and that write leaves the high byte's cell alone. -/
theorem stackRoundTrip : Obligations.StackRoundTrip := by
  intro s v hi plain apart
  have high : resolve (s.sp - 1) ∈ _ := plain _ List.mem_cons_self
  have low : resolve (s.sp - 2) ∈ _ := plain _ (List.mem_cons_of_mem _ List.mem_cons_self)
  have invHigh := busWrite_inv (setSp_inv hi (s.sp - 1)) (s.sp - 1) (hiByte v)
  have cells : ((s.setSp (s.sp - 1)).busWrite (s.sp - 1) (hiByte v)).cellOf = s.cellOf :=
    funext (cellOf_busWrite (s.setSp (s.sp - 1)) (plainRegion_of_mem high) (hiByte v))
  have readLow : (Pushed s v).busRead (s.sp - 2) = loByte v :=
    busRead_busWrite_same (setSp_inv invHigh (s.sp - 2)) (.inl low) (loByte v)
  have readHigh : (Pushed s v).busRead (s.sp - 1) = hiByte v :=
    calc (Pushed s v).busRead (s.sp - 1)
      _ = ((s.setSp (s.sp - 1)).busWrite (s.sp - 1) (hiByte v)).busRead (s.sp - 1) :=
        busRead_busWrite_ne (State.setSp _ (s.sp - 2)) (plainRegion_of_mem low)
          (by rw [← cells] at apart; exact apart.symm) _
      _ = hiByte v := busRead_busWrite_same (setSp_inv hi _) (.inl high) _
  have sp : (Pushed s v).sp = s.sp - 2 := by rw [Pushed, busWrite_sp]
  rw [sp, show s.sp - 2 + 1 = s.sp - 1 by bv_omega, readHigh, readLow]
  exact ⟨by bv_omega, joinBytes_hi_lo v⟩

/-! ### A window's bytes by their number -/

/-- The k-th byte of a window lies in the window's region, and its address is the window's first plus k. -/
theorem windowByte (r : Region) {base : Word} {k : Nat} (hbase : base.toNat = (regionRange r).1)
    (hk : (regionRange r).1 + k < (regionRange r).2) :
    resolve (base + BitVec.ofNat 16 k) = r ∧ (base + BitVec.ofNat 16 k).toNat = (regionRange r).1 + k := by
  have hle : (regionRange r).2 ≤ 0x10000 := by cases r <;> decide
  have e : (base + BitVec.ofNat 16 k).toNat = (regionRange r).1 + k := by
    simp only [BitVec.toNat_add, BitVec.toNat_ofNat]
    omega
  exact ⟨resolve_of_range (by omega) (by omega), e⟩

theorem wramIndex_bank0 (s : State) {k : Nat} (h : k < 0x1000) : s.wramIndex (0xC000 + k) = k := by
  rw [State.wramIndex, if_pos (by omega), Nat.add_sub_cancel_left]

theorem wramIndex_bankX (s : State) (k : Nat) : s.wramIndex (0xD000 + k) = s.wramBank * 0x1000 + k := by
  rw [State.wramIndex, if_neg (by omega), Nat.add_sub_cancel_left]

section Bytes

variable (s : State) {k : Nat}

/-- VRAM shows the bank VBK selects (20 R71). -/
theorem vramByte (h : k < 0x2000) (v : Byte) :
    s.busRead (0x8000 + BitVec.ofNat 16 k) = s.vram.read (s.vramIndex k) ∧
    s.busWrite (0x8000 + BitVec.ofNat 16 k) v = { s with vram := s.vram.write (s.vramIndex k) v } := by
  obtain ⟨hr, ha⟩ := windowByte .vram (base := 0x8000) (k := k) rfl (by simp only [regionRange]; omega)
  rw [busRead_vramWindow hr, busWrite_vramWindow hr, ha, regionRange, Nat.add_sub_cancel_left]
  exact ⟨rfl, rfl⟩

/-- 0xC000 shows WRAM bank 0 (20 R73). -/
theorem wram0Byte (h : k < 0x1000) (v : Byte) :
    s.busRead (0xC000 + BitVec.ofNat 16 k) = s.wram.read k ∧
    s.busWrite (0xC000 + BitVec.ofNat 16 k) v = { s with wram := s.wram.write k v } := by
  obtain ⟨hr, ha⟩ := windowByte .wram0 (base := 0xC000) (k := k) rfl (by simp only [regionRange]; omega)
  rw [busRead_wramWindow (.inl hr), busWrite_wramWindow (.inl hr), ha, regionRange, wramIndex_bank0 s h]
  exact ⟨rfl, rfl⟩

/-- 0xD000 shows the WRAM bank SVBK selects (20 R74). -/
theorem wramXByte (h : k < 0x1000) (v : Byte) :
    s.busRead (0xD000 + BitVec.ofNat 16 k) = s.wram.read (s.wramBank * 0x1000 + k) ∧
    s.busWrite (0xD000 + BitVec.ofNat 16 k) v = { s with wram := s.wram.write (s.wramBank * 0x1000 + k) v } := by
  obtain ⟨hr, ha⟩ := windowByte .wramX (base := 0xD000) (k := k) rfl (by simp only [regionRange]; omega)
  rw [busRead_wramWindow (.inr hr), busWrite_wramWindow (.inr hr), ha, regionRange, wramIndex_bankX]
  exact ⟨rfl, rfl⟩

theorem oamByte (h : k < 160) (v : Byte) :
    s.busRead (0xFE00 + BitVec.ofNat 16 k) = s.oam.read k ∧
    s.busWrite (0xFE00 + BitVec.ofNat 16 k) v = { s with oam := s.oam.write k v } := by
  obtain ⟨hr, ha⟩ := windowByte .oam (base := 0xFE00) (k := k) rfl (by simp only [regionRange]; omega)
  rw [busRead_oamWindow hr, busWrite_oamWindow hr, ha, regionRange, Nat.add_sub_cancel_left]
  exact ⟨rfl, rfl⟩

theorem hramByte (h : k < 127) (v : Byte) :
    s.busRead (0xFF80 + BitVec.ofNat 16 k) = s.hram.read k ∧
    s.busWrite (0xFF80 + BitVec.ofNat 16 k) v = { s with hram := s.hram.write k v } := by
  obtain ⟨hr, ha⟩ := windowByte .hram (base := 0xFF80) (k := k) rfl (by simp only [regionRange]; omega)
  rw [busRead_hramWindow hr, busWrite_hramWindow hr, ha, regionRange, Nat.add_sub_cancel_left]
  exact ⟨rfl, rfl⟩

end Bytes

/-- The VRAM bank after a write of VBK (20 R71, R95). -/
theorem vramIndex_setVbk (s : State) (v : Byte) (k : Nat) :
    (s.setPort 0x4F v).vramIndex k = v.toNat % 2 * 0x2000 + k := by
  rw [State.vramIndex, State.vramBank, port_setPort_same]

/-- The WRAM bank after a write of SVBK (20 R74, R75). -/
theorem wramBank_setSvbk (s : State) (v : Byte) :
    (s.setPort 0x70 v).wramBank = if v.toNat % 8 = 0 then 1 else v.toNat % 8 := by
  rw [State.wramBank, port_setPort_same]

/-- Settles O57, window by window. -/
theorem storageWindows : Obligations.StorageWindows := by
  refine ⟨?vram, ?vbk, fun s v k h => wram0Byte s h v, ?wramX, fun s v k h => oamByte s h v, fun s v k h => hramByte s h v,
    fun s v => ⟨busRead_ie rfl, busWrite_ie rfl v⟩⟩
  case vram => rintro s v k _ h rfl; exact vramByte s h v
  case vbk =>
    intro s v k h
    refine ⟨port_setPort_same s 0x4F v, ?_⟩
    rw [← vramIndex_setVbk s]
    exact (vramByte (s.setPort 0x4F v) h v).1
  case wramX => rintro s v k _ h rfl; exact wramXByte s h v

/-- Echo RAM is WRAM at the address less 0x2000 (20 R76). -/
theorem echo_mirrors_wram (s : State) {a : Word} (h : resolve a = .echo) (v : Byte) :
    s.busRead a = s.busRead (a - 0x2000) ∧ s.busWrite a v = s.busWrite (a - 0x2000) v := by
  obtain ⟨hlo, hhi⟩ := resolve_bounds h
  simp only [regionRange] at hlo hhi
  have e : (a - 0x2000).toNat = a.toNat - 0x2000 := by bv_omega
  have wram : resolve (a - 0x2000) = .wram0 ∨ resolve (a - 0x2000) = .wramX := by
    rcases Nat.lt_or_ge (a.toNat - 0x2000) 0xD000 with hlt | hge
    · exact .inl (resolve_of_range (by simp only [regionRange]; omega) (by simp only [regionRange]; omega))
    · exact .inr (resolve_of_range (by simp only [regionRange]; omega) (by simp only [regionRange]; omega))
  rw [busRead_echoWindow h, busWrite_echoWindow h, busRead_wramWindow wram, busWrite_wramWindow wram, e]
  exact ⟨rfl, rfl⟩

/-- Settles O23. -/
theorem wramWindows : Obligations.WramWindows := by
  refine ⟨fun s a v hlo hhi => echo_mirrors_wram s (resolve_of_range hlo (Nat.lt_succ_of_le hhi)) v, fun s v k h => ?_⟩
  refine ⟨port_setPort_same s 0x70 v, ?_⟩
  rw [← wramBank_setSvbk s]
  exact (wramXByte (s.setPort 0x70 v) h v).1

/-! ### External RAM and the not-usable region -/

theorem unusableRead_modes23 {s : State} (h : 2 ≤ (s.port 0x41).toNat % 4) (n : Nat) : s.unusableRead n = 0xFF := if_pos h

theorem unusableRead_pattern {s : State} (h : (s.port 0x41).toNat % 4 < 2) (hp : s.params.unusableRead = .pattern)
    (n : Nat) :
    (s.unusableRead n).toNat = n / 16 % 16 * 17 := by
  rw [State.unusableRead, if_neg (Nat.not_le.mpr h), hp]
  simp only [BitVec.toNat_ofNat]
  omega

theorem getElem?_eq_some_getD {n i : Nat} {bytes : Vector Byte n} (h : i < n) (v : Byte) :
    bytes[i]? = some (bytes.getD i v) := by
  simp [Vector.getD, h]

/-- The parameter's table gives the byte where the index lies in it (20 R79). -/
theorem unusableRead_table {s : State} {bytes : Vector Byte 192} (h : (s.port 0x41).toNat % 4 < 2)
    (hp : s.params.unusableRead = .table bytes) {n : Nat} (hlt : n - 0xFEA0 < 96) :
    bytes[(s.port 0x41).toNat % 4 * 96 + (n - 0xFEA0)]? = some (s.unusableRead n) := by
  have hi : 96 * ((s.port 0x41).toNat % 4) + (n - 0xFEA0) < 192 := by omega
  rw [State.unusableRead, if_neg (Nat.not_le.mpr h), hp, Nat.mul_comm]
  exact getElem?_eq_some_getD hi _

/-- Settles O27. -/
theorem eramAndUnusable : Obligations.EramAndUnusable := by
  refine ⟨fun s a v hlo hhi hclosed => ?closed, fun s a v hlo hhi hk hsize he => ?opened, fun s a v hlo hhi => ?unusable⟩
  case closed =>
    have hr : resolve a = .eram := resolve_of_range hlo (Nat.lt_succ_of_le hhi)
    have ho := eramOpen_eq_false hclosed
    exact ⟨(busRead_eramWindow hr).trans (eramRead_closed ho _),
      (busWrite_eramWindow hr v).trans (eramWrite_closed ho _ v)⟩
  case opened =>
    have hr : resolve a = .eram := resolve_of_range hlo (Nat.lt_succ_of_le hhi)
    have ho := eramOpen_eq_true hk hsize he
    exact ⟨s.eramIndex a.toNat, rfl, (busRead_eramWindow hr).trans (eramRead_open ho _),
      (busWrite_eramWindow hr v).trans (eramWrite_open ho _ v)⟩
  case unusable =>
    have hr : resolve a = .unusable := resolve_of_range hlo (Nat.lt_succ_of_le hhi)
    rw [busRead_unusable hr]
    exact ⟨busWrite_unusable hr v, fun h => unusableRead_modes23 h _, fun h hp => unusableRead_pattern h hp _,
      fun bytes h hp => unusableRead_table h hp (by omega)⟩

end Sys2Proof.Proofs

/-! PROOFS. The ROM window: MbcWrites, RomReads and BankClamp. -/

namespace Sys2Proof.Proofs

open Sys2Proof Sys2Proof.Machine Sys2Proof.Laws

/-! ### Bit fields as numbers -/

/-- Where no bit is set in both, OR adds. -/
theorem toNat_or_of_and_eq_zero {w : Nat} {x y : BitVec w} (h : x &&& y = 0#w) : (x ||| y).toNat = x.toNat + y.toNat := by
  rw [← BitVec.add_eq_or_of_and_eq_zero x y h, BitVec.toNat_add_of_and_eq_zero h]

/-- A field put where a mask keeps no bit. -/
theorem toNat_masked_or {w : Nat} (r : BitVec w) {mask field : BitVec w} (h : mask &&& field = 0#w) :
    ((r &&& mask) ||| field).toNat = (r &&& mask).toNat + field.toNat :=
  toNat_or_of_and_eq_zero (by rw [BitVec.and_assoc, h, BitVec.and_zero])

/-! The bits a bank register keeps under the controllers' masks (20 R102, R103, R107, R108). -/

theorem romBank_and_0x60 : ∀ r : BitVec 9, (r &&& 0x60).toNat = r.toNat / 32 % 4 * 32 := by decide
theorem romBank_and_0x1F : ∀ r : BitVec 9, (r &&& 0x1F).toNat = r.toNat % 32 := by decide
theorem romBank_and_0x100 : ∀ r : BitVec 9, (r &&& 0x100).toNat = r.toNat / 256 * 256 := by decide
theorem romBank_and_0x0FF : ∀ r : BitVec 9, (r &&& 0x0FF).toNat = r.toNat % 256 := by decide

theorem mbc1_low_toNat (r : BitVec 9) {n : Nat} (h : n < 32) :
    ((r &&& 0x60) ||| BitVec.ofNat 9 n).toNat = r.toNat / 32 % 4 * 32 + n := by
  have apart : ∀ n < 32, (0x60 : BitVec 9) &&& BitVec.ofNat 9 n = 0 := by decide
  have field : (BitVec.ofNat 9 n).toNat = n := Nat.mod_eq_of_lt (by omega)
  rw [toNat_masked_or r (apart n h), romBank_and_0x60, field]

theorem mbc1_high_toNat (r : BitVec 9) {n : Nat} (h : n < 4) :
    ((r &&& 0x1F) ||| BitVec.ofNat 9 (n * 32)).toNat = n * 32 + r.toNat % 32 := by
  have apart : ∀ n < 4, (0x1F : BitVec 9) &&& BitVec.ofNat 9 (n * 32) = 0 := by decide
  have field : (BitVec.ofNat 9 (n * 32)).toNat = n * 32 := Nat.mod_eq_of_lt (by omega)
  rw [toNat_masked_or r (apart n h), romBank_and_0x1F, field, Nat.add_comm]

theorem mbc5_low_toNat (r : BitVec 9) (v : Byte) :
    ((r &&& 0x100) ||| v.setWidth 9).toNat = r.toNat / 256 * 256 + v.toNat := by
  have apart : ∀ v : Byte, (0x100 : BitVec 9) &&& v.setWidth 9 = 0 := by decide
  rw [toNat_masked_or r (apart v), romBank_and_0x100, BitVec.toNat_setWidth_of_le (by decide)]

theorem mbc5_high_toNat (r : BitVec 9) {n : Nat} (h : n < 2) :
    ((r &&& 0x0FF) ||| BitVec.ofNat 9 (n * 256)).toNat = n * 256 + r.toNat % 256 := by
  have apart : ∀ n < 2, (0x0FF : BitVec 9) &&& BitVec.ofNat 9 (n * 256) = 0 := by decide
  have field : (BitVec.ofNat 9 (n * 256)).toNat = n * 256 := Nat.mod_eq_of_lt (by omega)
  rw [toNat_masked_or r (apart n h), romBank_and_0x0FF, field, Nat.add_comm]

/-! ### Writes -/

section Writes

variable {s : State} {a : Nat}

theorem mbcWrite_ramEnable (hk : s.cart.kind ≠ .romOnly) (h : a < 0x2000) (v : Byte) :
    s.mbcWrite a v = { s with ramEnable := decide (v.toNat % 16 = 10) } := by
  unfold State.mbcWrite
  split
  · next hk' => exact absurd hk' hk
  · rw [if_pos h]; rfl
  · rw [if_pos h]; rfl

theorem mbcWrite_mbc1_bankLow (hk : s.cart.kind = .mbc1) (h : 0x2000 ≤ a) (h' : a < 0x4000) (v : Byte) :
    s.mbcWrite a v =
      { s with romBank := (s.romBank &&& 0x60) ||| BitVec.ofNat 9 (if v.toNat % 32 = 0 then 1 else v.toNat % 32) } := by
  rw [State.mbcWrite, hk]
  dsimp only
  rw [if_neg (Nat.not_lt.mpr h), if_pos h']

/-- In ROM banking mode the register at 0x4000 holds the bank's high bits (20 R103). -/
theorem mbcWrite_mbc1_bankHigh (hk : s.cart.kind = .mbc1) (h : 0x4000 ≤ a) (h' : a < 0x6000) (hm : s.mbc1Mode = .rom)
    (v : Byte) :
    s.mbcWrite a v = { s with romBank := (s.romBank &&& 0x1F) ||| BitVec.ofNat 9 (v.toNat % 4 * 32) } := by
  rw [State.mbcWrite, hk]
  dsimp only
  rw [if_neg (by omega), if_neg (by omega), if_pos h', hm]

/-- In RAM banking mode the same register selects the RAM bank (20 R103). -/
theorem mbcWrite_mbc1_ramBank (hk : s.cart.kind = .mbc1) (h : 0x4000 ≤ a) (h' : a < 0x6000) (hm : s.mbc1Mode = .ram)
    (v : Byte) : s.mbcWrite a v = { s with ramBank := BitVec.ofNat 4 (v.toNat % 4) } := by
  rw [State.mbcWrite, hk]
  dsimp only
  rw [if_neg (by omega), if_neg (by omega), if_pos h', hm]

theorem mbcWrite_mbc1_mode (hk : s.cart.kind = .mbc1) (h : 0x6000 ≤ a) (v : Byte) :
    s.mbcWrite a v = { s with mbc1Mode := if v.toNat % 2 = 1 then .ram else .rom } := by
  have bit : ∀ v : Byte, v.getLsbD 0 = decide (v.toNat % 2 = 1) := by decide
  rw [State.mbcWrite, hk]
  dsimp only
  rw [if_neg (by omega), if_neg (by omega), if_neg (by omega), bit v]
  simp only [decide_eq_true_eq]

theorem mbcWrite_mbc5_bankLow (hk : s.cart.kind = .mbc5) (h : 0x2000 ≤ a) (h' : a < 0x3000) (v : Byte) :
    s.mbcWrite a v = { s with romBank := (s.romBank &&& 0x100) ||| v.setWidth 9 } := by
  rw [State.mbcWrite, hk]
  dsimp only
  rw [if_neg (by omega), if_pos h']

theorem mbcWrite_mbc5_bankHigh (hk : s.cart.kind = .mbc5) (h : 0x3000 ≤ a) (h' : a < 0x4000) (v : Byte) :
    s.mbcWrite a v = { s with romBank := (s.romBank &&& 0x0FF) ||| BitVec.ofNat 9 (v.toNat % 2 * 256) } := by
  rw [State.mbcWrite, hk]
  dsimp only
  rw [if_neg (by omega), if_neg (by omega), if_pos h']

theorem mbcWrite_mbc5_ramBank (hk : s.cart.kind = .mbc5) (h : 0x4000 ≤ a) (h' : a < 0x6000) (v : Byte) :
    s.mbcWrite a v = { s with ramBank := v.setWidth 4 } := by
  rw [State.mbcWrite, hk]
  dsimp only
  rw [if_neg (by omega), if_neg (by omega), if_neg (by omega), if_pos h']

theorem mbcWrite_mbc5_none (hk : s.cart.kind = .mbc5) (h : 0x6000 ≤ a) (v : Byte) : s.mbcWrite a v = s := by
  rw [State.mbcWrite, hk]
  dsimp only
  rw [if_neg (by omega), if_neg (by omega), if_neg (by omega), if_neg (by omega)]

end Writes

/-- The ROM window is the first two regions of the table. -/
theorem resolve_romWindow {a : Word} (h : a.toNat < 0x8000) : resolve a = .rom0 ∨ resolve a = .romX := by
  rcases Nat.lt_or_ge a.toNat 0x4000 with hlt | hge
  · exact .inl (resolve_of_range (Nat.zero_le _) hlt)
  · exact .inr (resolve_of_range hge h)

/-- Settles O24, register by register. -/
theorem mbcWrites : Obligations.MbcWrites := by
  intro s a v ha
  rw [busWrite_rom (resolve_romWindow ha)]
  refine ⟨fun hk => ?_, fun hk h => mbcWrite_ramEnable hk h v,
    fun hk h h' => ⟨_, mbcWrite_mbc1_bankLow hk h h' v, mbc1_low_toNat _ (by split <;> omega)⟩,
    fun hk h h' hm => ⟨_, mbcWrite_mbc1_bankHigh hk h h' hm v, mbc1_high_toNat _ (Nat.mod_lt _ (by decide))⟩,
    fun hk h h' hm => ⟨_, mbcWrite_mbc1_ramBank hk h h' hm v, ?_⟩,
    fun hk h => mbcWrite_mbc1_mode hk h v,
    fun hk h h' => ⟨_, mbcWrite_mbc5_bankLow hk h h' v, mbc5_low_toNat _ v⟩,
    fun hk h h' => ⟨_, mbcWrite_mbc5_bankHigh hk h h' v, mbc5_high_toNat _ (Nat.mod_lt _ (by decide))⟩,
    fun hk h h' => ⟨_, mbcWrite_mbc5_ramBank hk h h' v, BitVec.toNat_setWidth ..⟩,
    fun hk h => mbcWrite_mbc5_none hk h v⟩
  · rw [State.mbcWrite, hk]
  · rw [BitVec.toNat_ofNat]; omega

/-! ### Reads -/

theorem bootOverlays_iff (n : Nat) : bootOverlays n = true ↔ n < 0x100 ∨ (0x200 ≤ n ∧ n < 0x900) := by
  simp [bootOverlays]

theorem romRead_boot {s : State} {image : Mem} (hm : s.bootMapped = true) (hb : s.bootRom = some image) {n : Nat}
    (h : bootOverlays n = true) : s.romRead n = image.read n := by
  rw [State.romRead, hm, hb, h]; rfl

theorem romRead_cart {s : State} {n : Nat} (h : (s.bootMapped && bootOverlays n) = false) :
    s.romRead n = s.cart.rom.read (s.romIndex n) := by
  rw [State.romRead, h]

/-- Bank 0 below 0x4000, and the whole of a ROM_ONLY cartridge (20 R100, R105, R110). -/
theorem romIndex_fixed {s : State} {n : Nat} (h : s.cart.kind = .romOnly ∨ n < 0x4000) : s.romIndex n = n := by
  unfold State.romIndex
  split
  · rfl
  all_goals next hk => exact if_pos (h.resolve_left (by simp [hk]))

theorem romIndex_banked {s : State} {n : Nat} (hk : s.cart.kind ≠ .romOnly) (h : 0x4000 ≤ n) :
    s.romIndex n = s.romBank.toNat % s.cart.romBanks * 0x4000 + (n - 0x4000) := by
  unfold State.romIndex
  split
  · next e => exact absurd e hk
  all_goals exact if_neg (Nat.not_lt.mpr h)

/-- Settles O25. -/
theorem romReads : Obligations.RomReads := by
  refine ⟨fun s image a hm hb h => ?boot, fun s a h ha => ?cart⟩
  case boot =>
    rw [busRead_rom (resolve_romWindow (by omega)), romRead_boot hm hb ((bootOverlays_iff _).mpr h)]
  case cart =>
    have off : (s.bootMapped && bootOverlays a.toNat) = false := by
      rcases h with h | h
      · rw [h]; rfl
      · rw [Bool.and_eq_false_iff, ← Bool.not_eq_true, ← Bool.not_eq_true, bootOverlays_iff]
        exact .inr (by omega)
    rw [busRead_rom (resolve_romWindow ha), romRead_cart off]
    split
    · next hfix => rw [romIndex_fixed hfix]
    · next hbank =>
      obtain ⟨hk, hge⟩ := not_or.mp hbank
      rw [romIndex_banked hk (Nat.le_of_not_lt hge)]

theorem romBanks_pos {c : Cart} (h : c.Ok) : 0 < c.romBanks := by
  obtain ⟨k, -, e⟩ := h.romBanks
  rw [e]
  positivity

/-- No read of the ROM window is out of bounds (20 R112). -/
theorem romIndex_lt {s : State} (h : s.cart.Ok) {n : Nat} (hn : n < 0x8000) : s.romIndex n < s.cart.romBanks * 0x4000 := by
  by_cases hfix : s.cart.kind = .romOnly ∨ n < 0x4000
  · rw [romIndex_fixed hfix]
    have := romBanks_pos h
    rcases hfix with hk | hlt
    · rw [(h.romOnly hk).1]; exact hn
    · omega
  · obtain ⟨hk, hge⟩ := not_or.mp hfix
    have bank := Nat.mod_lt s.romBank.toNat (romBanks_pos h)
    rw [romIndex_banked hk (Nat.le_of_not_lt hge)]
    omega

/-- The switchable window, whatever the bank register holds: no boot overlay reaches it. -/
theorem busRead_switchable (s : State) (b : BitVec 9) {a : Word} (hk : s.cart.kind ≠ .romOnly) (hlo : 0x4000 ≤ a.toNat)
    (hhi : a.toNat < 0x8000) :
    ({ s with romBank := b } : State).busRead a =
      s.cart.rom.read (b.toNat % s.cart.romBanks * 0x4000 + (a.toNat - 0x4000)) :=
  (romReads.2 { s with romBank := b } a (.inr (by omega)) hhi).trans
    (if_neg (not_or.mpr ⟨hk, Nat.not_lt.mpr hlo⟩))

/-- Settles O26: the bank count drops out of the remainder. -/
theorem bankClamp : Obligations.BankClamp := by
  refine ⟨fun s r r' a hk hr hlo hhi => ?_, fun s a hi ha => romIndex_lt hi.cart ha⟩
  rw [busRead_switchable s r' hk hlo hhi, busRead_switchable s r hk hlo hhi, hr, Nat.add_mod_right]

end Sys2Proof.Proofs

/-! PROOFS. The I/O ports: PortRules, PlainPorts and Palette. -/

namespace Sys2Proof.Proofs

open Sys2Proof Sys2Proof.Machine Sys2Proof.Laws

/-! ### The port of an address -/

/-- Port p is at 0xFF00 + p (20 R80). -/
theorem portAddress (p : BitVec 7) :
    resolve (0xFF00 + p.setWidth 16) = .io ∧ ((0xFF00 + p.setWidth 16 : Word).setWidth 7 : BitVec 7) = p := by
  have hp := p.isLt
  have e : (0xFF00 + p.setWidth 16 : Word).toNat = 0xFF00 + p.toNat := by bv_omega
  refine ⟨resolve_of_range (by simp only [regionRange]; omega) (by simp only [regionRange]; omega), ?_⟩
  apply BitVec.eq_of_toNat_eq
  rw [BitVec.toNat_setWidth, e]
  omega

theorem busRead_port (s : State) (p : BitVec 7) : s.busRead (0xFF00 + p.setWidth 16) = s.readPort p := by
  obtain ⟨hr, hp⟩ := portAddress p
  rw [State.busRead, hr]
  exact congrArg s.readPort hp

theorem busWrite_port (s : State) (p : BitVec 7) (v : Byte) :
    s.busWrite (0xFF00 + p.setWidth 16) v = s.writePort p v := by
  obtain ⟨hr, hp⟩ := portAddress p
  rw [State.busWrite, hr]
  exact congrArg (s.writePort · v) hp

/-! ### Ports with a rule of their own -/

/-- The two selector bits of P1 (20 R83). -/
theorem getLsbD_selectorMask : ∀ k < 8, (0x30 : Byte).getLsbD k = decide (k = 4 ∨ k = 5) := by decide

theorem writeP1_getLsbD (p v : Byte) {k : Nat} (hk : k < 8) :
    ((p &&& 0xCF) ||| (v &&& 0x30)).getLsbD k = if k = 4 ∨ k = 5 then v.getLsbD k else p.getLsbD k := by
  rw [BitVec.getLsbD_or, getLsbD_and_selectors p hk, BitVec.getLsbD_and, getLsbD_selectorMask k hk]
  by_cases h : k = 4 ∨ k = 5
  · simp [h, ← not_or]
  · simp [h, ← not_or]

/-- The direction lines, low nibble: high unless their group is selected (20 R84). -/
theorem directions_getLsbD (off : Bool) (lines : Byte) {k : Nat} (hk : k < 8) :
    (if off then 0x0F else lines &&& 0x0F : Byte).getLsbD k = (decide (k < 4) && (off || lines.getLsbD k)) := by
  have low : ∀ k < 8, (0x0F : Byte).getLsbD k = decide (k < 4) := by decide
  cases off
  case true => simpa using low k hk
  case false =>
    rw [if_neg (by decide), BitVec.getLsbD_and, low k hk, Bool.and_comm]
    rfl

/-- The button lines, moved to the low nibble: high unless their group is selected (20 R84). -/
theorem buttons_getLsbD (off : Bool) (lines : Byte) {k : Nat} (hk : k < 4) :
    (if off then 0x0F else lines >>> 4 : Byte).getLsbD k = (off || lines.getLsbD (k + 4)) := by
  have low : ∀ k < 4, (0x0F : Byte).getLsbD k = true := by decide
  cases off
  case true => exact low k hk
  case false =>
    rw [if_neg (by decide), BitVec.getLsbD_ushiftRight, Nat.add_comm]
    rfl

/-- P1's read, bit by bit (20 R84). -/
theorem readP1_getLsbD (s : State) {k : Nat} (hk : k < 8) :
    s.readP1.getLsbD k =
      if 6 ≤ k then true
      else if 4 ≤ k then (s.port 0x00).getLsbD k
      else ((s.port 0x00).getLsbD 4 || s.joypIn.getLsbD k) && ((s.port 0x00).getLsbD 5 || s.joypIn.getLsbD (k + 4)) := by
  have ones : ∀ k < 8, (0xC0 : Byte).getLsbD k = decide (6 ≤ k) := by decide
  unfold State.readP1
  simp only [BitVec.getLsbD_or, BitVec.getLsbD_and, ones k hk, getLsbD_selectorMask k hk, directions_getLsbD _ _ hk]
  by_cases h6 : 6 ≤ k
  · simp [h6]
  by_cases h4 : 4 ≤ k
  · have selector : k = 4 ∨ k = 5 := by omega
    simp [h6, h4, selector, Nat.not_lt.mpr h4]
  · have line : k < 4 := Nat.lt_of_not_le h4
    have selector : ¬(k = 4 ∨ k = 5) := by omega
    simp only [h6, h4, selector, line, buttons_getLsbD _ _ line]
    simp

theorem readKey1_toNat (s : State) : s.readKey1.toNat = s.doubleSpeed.toNat * 128 + 126 + s.key1Armed.toNat := by
  have h : ∀ d k : Bool, ((if d then 0x80 else 0x00) ||| 0x7E ||| (if k then 0x01 else 0x00) : Byte).toNat =
      d.toNat * 128 + 126 + k.toNat := by decide
  exact h _ _

theorem writeIf_eq (s : State) (v : Byte) :
    s.writeIf v = s.setPort 0x0F (if s.params.ifWrite = .or then s.ifReg ||| v else v) := by
  unfold State.writeIf State.setIf
  split
  · next h => rw [if_pos h]
  · next h => rw [if_neg (by simp [h])]

theorem writeBoot_eq (s : State) (v : Byte) :
    s.writeBoot v = { s.setPort 0x50 v with bootMapped := if v = 0x11 then false else s.bootMapped } := by
  have mapped : (s.bootMapped && v != 0x11) = if v = 0x11 then false else s.bootMapped := by
    split
    · next h => rw [h]; exact Bool.and_false _
    · next h => rw [bne_iff_ne.mpr h, Bool.and_true]
  rw [State.writeBoot, mapped]

/-- Settles O28, port by port. -/
theorem portRules : Obligations.PortRules :=
  ⟨fun s v => ⟨_, rfl, fun _ hk => writeP1_getLsbD (s.port 0x00) v hk⟩, fun s _ hk => readP1_getLsbD s hk,
    fun s _ => ⟨rfl, port_setPort_same s 0x04 0x00⟩, fun s v => ⟨rfl, writeIf_eq s v⟩,
    fun s _ => ⟨rfl, readKey1_toNat s⟩, writeBoot_eq⟩

/-! ### Plain ports -/

theorem ne_of_toNat_notMem {p : BitVec 7} {ports : List Nat} (h : p.toNat ∉ ports) (q : BitVec 7) (hq : q.toNat ∈ ports) :
    p ≠ q := by
  rintro rfl
  exact h hq

/-- A port whose read is its stored byte (20 R80). -/
theorem readPort_stored (s : State) {p : BitVec 7} (h : p.toNat ∉ [0x00, 0x4D, 0x69, 0x6B]) : s.readPort p = s.port p := by
  have ne := ne_of_toNat_notMem h
  rw [State.readPort]
  iterate 4 rw [if_neg (ne _ (by decide))]

/-- A port whose write only stores the byte (20 R80). -/
theorem writePort_stored (s : State) {p : BitVec 7} (h : p.toNat ∉ [0x00, 0x04, 0x0F, 0x46, 0x4D, 0x50, 0x55, 0x69, 0x6B])
    (v : Byte) : s.writePort p v = s.setPort p v := by
  have ne := ne_of_toNat_notMem h
  rw [State.writePort]
  iterate 9 rw [if_neg (ne _ (by decide))]

theorem writePort_plain (s : State) {p : BitVec 7} (h : p.toNat ∉ [0x00, 0x04, 0x0F, 0x4D, 0x55, 0x69, 0x6B])
    (h' : p.toNat ∉ [0x46, 0x50]) (v : Byte) : s.writePort p v = s.setPort p v := by
  have own : [0x00, 0x04, 0x0F, 0x46, 0x4D, 0x50, 0x55, 0x69, 0x6B] ⊆
      [0x00, 0x04, 0x0F, 0x4D, 0x55, 0x69, 0x6B] ++ [0x46, 0x50] := by decide
  exact writePort_stored s (fun hp => (List.mem_append.mp (own hp)).elim h h') v

theorem writeDma_port (s : State) (v : Byte) (q : BitVec 7) : (s.writeDma v).port q = (s.setPort 0x46 v).port q := by
  obtain ⟨m, hm⟩ := oamCopy_eq v 160 0 (s.setPort 0x46 v)
  rw [State.writeDma, hm]
  rfl

/-- Among the ports a write of DMA or of the boot-disable port only stores the byte as well (20 R89, R93). -/
theorem writePort_port (s : State) {p : BitVec 7} (h : p.toNat ∉ [0x00, 0x04, 0x0F, 0x4D, 0x55, 0x69, 0x6B]) (v : Byte)
    (q : BitVec 7) : (s.writePort p v).port q = (s.setPort p v).port q := by
  by_cases h' : p.toNat ∈ [0x46, 0x50]
  · obtain hp | hp : p.toNat = 0x46 ∨ p.toNat = 0x50 := by simpa using h'
    · obtain rfl : p = 0x46 := BitVec.eq_of_toNat_eq hp
      exact writeDma_port s v q
    · obtain rfl : p = 0x50 := BitVec.eq_of_toNat_eq hp
      rfl
  · rw [writePort_plain s h h']

/-- Settles O29. -/
theorem plainPorts : Obligations.PlainPorts := by
  intro s p v h
  have read : p.toNat ∉ [0x00, 0x4D, 0x69, 0x6B] := fun hp =>
    h ((by decide : [0x00, 0x4D, 0x69, 0x6B] ⊆ [0x00, 0x04, 0x0F, 0x4D, 0x55, 0x69, 0x6B]) hp)
  rw [busRead_port, busWrite_port]
  refine ⟨?_, fun q hq => ?_, fun h' => writePort_plain s h h' v⟩
  · rw [readPort_stored _ read, writePort_port s h, port_setPort_same]
  · rw [writePort_port s h, port_setPort_ne s hq]

/-! ### Palettes -/

theorem paletteStep_toNat : ∀ spec : Byte, spec.getLsbD 7 = true →
    (paletteStep spec).toNat = spec.toNat / 64 * 64 + (spec.toNat % 64 + 1) % 64 := by decide

theorem paletteStep_still {spec : Byte} (h : spec.getLsbD 7 = false) : paletteStep spec = spec := by
  rw [paletteStep, h]; rfl

/-- Settles O30: background and object palettes have one rule. -/
theorem palette : Obligations.Palette :=
  ⟨fun _ _ => ⟨_, rfl, rfl, paletteStep_still, paletteStep_toNat _⟩,
    fun _ _ => ⟨_, rfl, rfl, paletteStep_still, paletteStep_toNat _⟩⟩

end Sys2Proof.Proofs

/-! PROOFS. The DMA copies: OamDma, HdmaPort and HdmaCopyOrder. -/

namespace Sys2Proof.Proofs

open Sys2Proof Sys2Proof.Machine Sys2Proof.Laws

/-! ### OAM DMA -/

/-- OAM DMA leaves everything but OAM (20 R89). -/
theorem writeDma_eq (s : State) (v : Byte) : s.writeDma v = { s.setPort 0x46 v with oam := (s.writeDma v).oam } := by
  obtain ⟨m, hm⟩ := oamCopy_eq v 160 0 (s.setPort 0x46 v)
  rw [State.writeDma, hm]

/-- Settles O31; the bytes are those of `oamCopy_read`. -/
theorem oamDma : Obligations.OamDma := by
  intro s v hi
  refine ⟨s.writeDma v, rfl, writeDma_eq s v, fun k hk => ?_⟩
  have copied := (oamCopy_read v 160 0 (s.setPort 0x46 v) hi.oam (Nat.le_refl _)).1 k hk
  rw [Nat.zero_add] at copied
  exact (oamByte (s.writeDma v) hk 0).1.trans copied

/-! ### HDMA source and destination as numbers -/

/-- A mask of k ones from bit j on picks that field of a number. -/
theorem and_mask (n j k : Nat) : n &&& ((2 ^ k - 1) <<< j) = n / 2 ^ j % 2 ^ k * 2 ^ j := by
  rw [← Nat.shiftLeft_eq, ← Nat.shiftRight_eq_div_pow]
  apply Nat.eq_of_testBit_eq
  intro i
  simp only [Nat.testBit_and, Nat.testBit_shiftLeft, Nat.testBit_two_pow_sub_one, Nat.testBit_mod_two_pow,
    Nat.testBit_shiftRight]
  by_cases h : j ≤ i
  · simp [h, Bool.and_comm]
  · simp [h]

theorem toNat_and_0xFFF0 (w : Word) : (w &&& 0xFFF0).toNat = w.toNat / 16 * 16 := by
  have := w.isLt
  have field : w.toNat &&& 0xFFF0 = w.toNat / 16 % 4096 * 16 := and_mask w.toNat 4 12
  rw [BitVec.toNat_and]
  exact field.trans (by omega)

theorem toNat_and_0x1FF0 (w : Word) : (w &&& 0x1FF0).toNat = w.toNat % 0x2000 / 16 * 16 := by
  have field : w.toNat &&& 0x1FF0 = w.toNat / 16 % 512 * 16 := and_mask w.toNat 4 9
  rw [BitVec.toNat_and]
  exact field.trans (by omega)

/-- At an offset inside VRAM, OR with VRAM's first address adds it. -/
theorem vramBase_or {w : Word} (h : w.toNat < 0x2000) : 0x8000 ||| w = 0x8000 + w := by
  have field : w.toNat &&& 0x8000 = w.toNat / 32768 % 2 * 32768 := and_mask w.toNat 15 1
  have apart : (0x8000 : Word) &&& w = 0#16 := by
    apply BitVec.eq_of_toNat_eq
    rw [BitVec.and_comm, BitVec.toNat_and]
    exact field.trans (by simp; omega)
  exact (BitVec.add_eq_or_of_and_eq_zero _ _ apart).symm

theorem hdmaSource_toNat (s : State) :
    s.hdmaSource.toNat = ((s.port 0x51).toNat * 256 + (s.port 0x52).toNat) / 16 * 16 := by
  rw [State.hdmaSource, toNat_and_0xFFF0, joinBytes_toNat]

theorem hdmaDest_toNat (s : State) :
    s.hdmaDest.toNat = 0x8000 + ((s.port 0x53).toNat * 256 + (s.port 0x54).toNat) % 0x2000 / 16 * 16 := by
  have h := toNat_and_0x1FF0 (joinBytes (s.port 0x53) (s.port 0x54))
  rw [State.hdmaDest, vramBase_or (by omega), BitVec.toNat_add, h, joinBytes_toNat]
  exact Nat.mod_eq_of_lt (show 0x8000 + _ < 0x10000 by omega)

theorem vramDest_eq (dst : Word) (k : Nat) : vramDest dst k = 0x8000 + BitVec.ofNat 16 ((dst.toNat + k) % 0x2000) :=
  vramBase_or (by simp only [BitVec.toNat_ofNat]; omega)

/-! ### HDMA5 -/

section Hdma5

variable {s : State} {v : Byte}

theorem writeHdma5_cancel (ha : s.hdmaActive = true) (hv : v.getLsbD 7 = false) :
    s.writeHdma5 v = { s.setPort 0x55 (0x80 ||| s.hdmaBlocks.setWidth 8) with hdmaActive := false } := by
  rw [State.writeHdma5, ha, hv]; rfl

theorem writeHdma5_arm (hv : v.getLsbD 7 = true) :
    s.writeHdma5 v = { s.setPort 0x55 (v &&& 0x7F) with
      hdmaSrc := s.hdmaSource, hdmaDst := s.hdmaDest, hdmaBlocks := v.setWidth 7, hdmaActive := true } := by
  rw [State.writeHdma5, hv, Bool.not_true, Bool.and_false]; rfl

/-- A general-purpose copy leaves everything but VRAM, HDMA5 and the two addresses (20 R91). -/
theorem writeHdma5_copy (ha : s.hdmaActive = false) (hv : v.getLsbD 7 = false) :
    s.writeHdma5 v = { s.setPort 0x55 0xFF with
      hdmaSrc := s.hdmaSource + BitVec.ofNat 16 ((v.toNat % 128 + 1) * 16)
      hdmaDst := vramDest s.hdmaDest ((v.toNat % 128 + 1) * 16), hdmaActive := false
      vram := (vramCopy s.hdmaSource s.hdmaDest ((v.toNat % 128 + 1) * 16) 0 s).vram } := by
  obtain ⟨m, hm⟩ := vramCopy_eq s.hdmaSource s.hdmaDest ((v.toNat % 128 + 1) * 16) 0 s
  rw [State.writeHdma5, ha, hv]
  simp only [hm]
  rfl

end Hdma5

theorem cancelPort_toNat : ∀ n : BitVec 7, ((0x80 : Byte) ||| n.setWidth 8).toNat = 128 + n.toNat := by decide

theorem armedPort_toNat : ∀ v : Byte, (v &&& 0x7F).toNat = v.toNat % 128 := by decide

/-- Settles O32; the bytes copied are those of `vramCopy_read`. -/
theorem hdmaPort : Obligations.HdmaPort := by
  refine ⟨fun s v ha hv => ⟨_, writeHdma5_cancel ha hv, cancelPort_toNat _⟩,
    fun s v hv => ⟨_, _, _, _, writeHdma5_arm hv, hdmaSource_toNat s, hdmaDest_toNat s,
      BitVec.toNat_setWidth .., armedPort_toNat v⟩,
    fun s v hi ha hv => ?_⟩
  refine ⟨s.hdmaSource, s.hdmaDest, _, s.writeHdma5 v, hdmaSource_toNat s, hdmaDest_toNat s, rfl, rfl, ?_, fun hsrc => ?_⟩
  · rw [writeHdma5_copy ha hv, vramDest_eq]
  · obtain ⟨copied, others⟩ := vramCopy_read s.hdmaSource s.hdmaDest ((v.toNat % 128 + 1) * 16) 0 s hi.vram (by omega)
      (by simpa using hsrc)
    rw [writeHdma5_copy ha hv]
    simp only [Nat.zero_add] at copied others
    exact ⟨copied, others⟩

/-! ### The order of the bytes -/

/-- VRAM after k bytes of a copy. -/
def copiedVram (src dst : Word) (s : State) (k : Nat) : Mem := (vramCopy src dst k 0 s).vram

theorem vramCopy_eq_copiedVram (src dst : Word) (s : State) (k : Nat) :
    vramCopy src dst k 0 s = { s with vram := copiedVram src dst s k } := by
  obtain ⟨m, hm⟩ := vramCopy_eq src dst k 0 s
  rw [copiedVram, hm]

/-- Each byte is read from the memory the bytes before it left, and written to the selected bank (20 R91, R92). -/
theorem copiedVram_succ (src dst : Word) (s : State) (k : Nat) :
    copiedVram src dst s (k + 1) =
      (copiedVram src dst s k).write ((s.port 0x4F).toNat % 2 * 0x2000 + (dst.toNat + k) % 0x2000)
        (({ s with vram := copiedVram src dst s k } : State).busRead (src + BitVec.ofNat 16 k)) := by
  rw [copiedVram, vramCopy_succ, vramCopy_eq_copiedVram, Nat.zero_add]
  rfl

/-- Settles O58: both copies are `copiedVram`, 16 bytes at an HBlank and all blocks at a write of HDMA5. -/
theorem hdmaCopyOrder : Obligations.HdmaCopyOrder := by
  refine ⟨fun s ha => ?_, fun s v ha hv => ?_⟩
  · refine ⟨s.hblank, copiedVram s.hdmaSrc s.hdmaDst s, rfl, rfl, ?_, fun k _ => copiedVram_succ _ _ s k⟩
    rw [hblank_armed ha, copiedVram]
  · refine ⟨s.hdmaSource, s.hdmaDest, copiedVram s.hdmaSource s.hdmaDest s, hdmaSource_toNat s, hdmaDest_toNat s, rfl, ?_,
      fun k _ => copiedVram_succ _ _ s k⟩
    exact (congrArg State.vram (writeHdma5_copy ha hv)).symm

end Sys2Proof.Proofs

/-! PROOFS. NoStoreFrame and StoreFrame: every instruction but STOP is a run of bus writes to the addresses `stores` gives,
with only registers and engine bits changing between them. One case split over the instructions says so. -/

namespace Sys2Proof.Proofs

open Sys2Proof Sys2Proof.Machine Sys2Proof.Laws

/-! ### The part of a state that only a store changes -/

/-- The state with every register and engine bit blanked that no bus read goes through. -/
def storage (s : State) : State :=
  { s with
    af := 0, bc := 0, de := 0, hl := 0, sp := 0, pc := 0, cycles := 0
    ime := false, eiPending := false, halted := false, haltBug := false, stopped := false }

theorem busRead_storage (s : State) (b : Word) : (storage s).busRead b = s.busRead b := rfl

theorem cellOf_storage (s : State) (b : Word) : (storage s).cellOf b = s.cellOf b := rfl

theorem storage_setSp (s : State) (v : Word) : storage (s.setSp v) = storage s := rfl

theorem storage_setPc (s : State) (v : Word) : storage (s.setPc v) = storage s := rfl

theorem storage_tick (s : State) (k : Nat) : storage (s.tick k) = storage s := rfl

theorem busRead_of_storage_eq {s t : State} (h : storage t = storage s) (b : Word) : t.busRead b = s.busRead b := by
  rw [← busRead_storage t, h, busRead_storage]

theorem cellOf_of_storage_eq {s t : State} (h : storage t = storage s) (b : Word) : t.cellOf b = s.cellOf b := by
  rw [← cellOf_storage t, h, cellOf_storage]

/-- The storage without the two bits KEY1 shows, which STOP changes. -/
def memory (s : State) : State := { storage s with doubleSpeed := false, key1Armed := false }

theorem memory_of_storage_eq {s t : State} (h : storage t = storage s) : memory t = memory s :=
  congrArg (fun u : State => { u with doubleSpeed := false, key1Armed := false }) h

/-- What `memory` does not blank is equal where the memory is. -/
theorem eq_of_memory_eq {α : Type} {s t : State} (h : memory t = memory s) (f : State → α)
    (hf : ∀ u, f (memory u) = f u) : f t = f s := by
  rw [← hf t, h, hf s]

theorem eq_key1Address {a : Word} (h : resolve a = .io) (hp : (a.setWidth 7 : BitVec 7) = 0x4D) : a = 0xFF4D := by
  obtain ⟨hlo, hhi⟩ := resolve_bounds h
  simp only [regionRange] at hlo hhi
  bv_omega

/-- Only a read of KEY1 goes through the two bits. -/
theorem busRead_memory (s : State) {a : Word} (ha : a ≠ 0xFF4D) : (memory s).busRead a = s.busRead a := by
  unfold State.busRead
  cases hr : resolve a
  case io =>
    have hp : (a.setWidth 7 : BitVec 7) ≠ 0x4D := fun hp => ha (eq_key1Address hr hp)
    simp only [State.readPort, if_neg hp]
    rfl
  all_goals rfl

theorem busRead_of_memory_eq {s t : State} (h : memory t = memory s) {a : Word} (ha : a ≠ 0xFF4D) :
    t.busRead a = s.busRead a := by
  rw [← busRead_memory t ha, h, busRead_memory s ha]

/-- `t` is what bus writes to the addresses, in order, make of `s`; between them nothing of the storage changes. -/
inductive StoreRun : State → List Word → State → Prop
  | done {s t : State} (h : storage t = storage s) : StoreRun s [] t
  | store {s u t : State} {a : Word} {as : List Word} (h : storage u = storage s) (v : Byte)
      (rest : StoreRun (u.busWrite a v) as t) : StoreRun s (a :: as) t

/-- A run of plain stores leaves every byte whose cell is none of theirs. -/
theorem StoreRun.busRead_ne {s t : State} {as : List Word} (h : StoreRun s as t)
    (plain : ∀ a ∈ as, plainRegion (resolve a) = true) {b : Word} (apart : ∀ a ∈ as, s.cellOf a ≠ s.cellOf b) :
    t.busRead b = s.busRead b := by
  induction h with
  | done h => exact busRead_of_storage_eq h b
  | @store s u t a as h v rest ih =>
    have ha := plain a List.mem_cons_self
    have cells (c : Word) : (u.busWrite a v).cellOf c = s.cellOf c :=
      (cellOf_busWrite u ha v c).trans (cellOf_of_storage_eq h c)
    have hab : u.cellOf a ≠ u.cellOf b := by
      rw [cellOf_of_storage_eq h, cellOf_of_storage_eq h]
      exact apart a List.mem_cons_self
    calc t.busRead b
      _ = (u.busWrite a v).busRead b := ih (fun c hc => plain c (List.mem_cons_of_mem _ hc)) (fun c hc => by
          rw [cells, cells]; exact apart c (List.mem_cons_of_mem _ hc))
      _ = u.busRead b := busRead_busWrite_ne u ha hab v
      _ = s.busRead b := busRead_of_storage_eq h b

/-! ### The operations, by what they store -/

/-- Where the answer is a next state, it is a run of stores to the addresses. -/
def Stores (s : State) (r : Result) (as : List Word) : Prop := ∀ t, r = .next t → StoreRun s as t

section Stores

variable {s : State}

theorem stores_none {t : State} (h : storage t = storage s) : Stores s (.next t) [] := by
  rintro _ ⟨⟩; exact .done h

theorem stores_branch (c : Bool) {t u : State} (ht : storage t = storage s) (hu : storage u = storage s) :
    Stores s (if c then .next t else .next u) [] := by
  cases c
  · exact stores_none hu
  · exact stores_none ht

theorem stores_unused (k : Nat) : Stores s (unusedOp k s) [] := by
  unfold unusedOp
  split
  · exact stores_none rfl
  · rintro _ ⟨⟩

theorem stores_alu (op : AluOp) (b : Byte) (k : Nat) : Stores s (.next ((s.aluStep op b).tick k)) [] := by
  cases op <;> exact stores_none rfl

theorem stores_setFlags {u : State} (h : storage u = storage s) (z n hf c : Bool) (k : Nat) :
    Stores s (.next ((u.setFlags z n hf c).tick k)) [] :=
  stores_none h

theorem stores_pop (p : R16Stk) (k : Nat) : Stores s (pop p k s) [] := by
  cases p <;> exact stores_none rfl

theorem stores_reti (k : Nat) : Stores s (retiOp k s) [] := stores_none (t := s.returnFromInterrupt.tick k) rfl

theorem stores_write (a : Word) (v : Byte) (k : Nat) : Stores s (.next ((s.busWrite a v).tick k)) [a] := by
  rintro _ ⟨⟩; exact .store rfl v (.done rfl)

theorem stores_writeHighPage (a v : Byte) (k : Nat) :
    Stores s (.next ((s.busWrite (highPage a) v).tick k)) [0xFF00 + a.setWidth 16] := by
  rw [← highPage_eq]
  exact stores_write _ v k

theorem stores_writeFlags (a : Word) (v : Byte) (z n h c : Bool) (k : Nat) :
    Stores s (.next (((s.busWrite a v).setFlags z n h c).tick k)) [a] := by
  rintro _ ⟨⟩; exact .store rfl v (.done rfl)

theorem stores_writeStep (delta : Word) (k : Nat) : Stores s (stAStep delta k s) [s.hl] := by
  rintro _ ⟨⟩; exact .store rfl s.a (.done rfl)

theorem stores_sp (addr : Word) (k : Nat) : Stores s (ldMemSp addr k s) [addr, addr + 1] := by
  rintro _ ⟨⟩; exact .store rfl _ (.store rfl _ (.done rfl))

theorem stores_push16 (v : Word) {t : State} (h : storage t = storage (s.push16 v)) :
    Stores s (.next t) [s.sp - 1, s.sp - 2] := by
  rw [push16_eq] at h
  rintro _ ⟨⟩
  exact .store (storage_setSp s _) _ (.store (storage_setSp _ _) _ (.done h))

theorem stores_push (p : R16Stk) (k : Nat) : Stores s (push p k s) [s.sp - 1, s.sp - 2] :=
  stores_push16 (s.r16stk p) (storage_tick _ _)

theorem stores_call (target : Word) (k : Nat) : Stores s (call target k s) [s.sp - 1, s.sp - 2] :=
  stores_push16 s.pc ((storage_tick _ _).trans (storage_setPc _ _))

theorem stores_callIf (cond : Cond) (target : Word) (taken k : Nat) :
    Stores s (callIf cond target taken k s) (if s.holds cond then [s.sp - 1, s.sp - 2] else []) := by
  unfold callIf
  split
  · exact stores_push16 s.pc ((storage_tick _ _).trans (storage_setPc _ _))
  · exact stores_none rfl

end Stores

/-- What each instruction stores; STOP stores nothing either, but it changes KEY1. -/
theorem exec_stores {i : Instr} (s : State) (hi : ∀ x, i ≠ .stop x) : Stores s (exec i s) (Machine.stores i s) := by
  cases i
  case stop x => exact absurd rfl (hi x)
  case ld_MemBC_A | ld_MemDE_A | ld_MemA16_A => exact stores_write _ _ _
  case ldh_MemA8_A | ld_MemC_A => exact stores_writeHighPage _ _ _
  case ld_MemHL_B | ld_MemHL_C | ld_MemHL_D | ld_MemHL_E | ld_MemHL_H | ld_MemHL_L | ld_MemHL_A | ld_MemHL_n8 |
      res_0_MemHL | res_1_MemHL | res_2_MemHL | res_3_MemHL | res_4_MemHL | res_5_MemHL | res_6_MemHL | res_7_MemHL |
      set_0_MemHL | set_1_MemHL | set_2_MemHL | set_3_MemHL | set_4_MemHL | set_5_MemHL | set_6_MemHL | set_7_MemHL =>
    exact stores_write _ _ _
  case inc_MemHL | dec_MemHL | rlc_MemHL | rrc_MemHL | rl_MemHL | rr_MemHL | sla_MemHL | sra_MemHL | swap_MemHL | srl_MemHL =>
    exact stores_writeFlags _ _ _ _ _ _ _
  case ld_MemHLInc_A | ld_MemHLDec_A => exact stores_writeStep _ _
  case ld_MemA16_SP => exact stores_sp _ _
  case push_BC | push_DE | push_HL | push_AF => exact stores_push _ _
  case call_a16 | rst_00 | rst_08 | rst_10 | rst_18 | rst_20 | rst_28 | rst_30 | rst_38 => exact stores_call _ _
  case call_NZ_a16 | call_Z_a16 | call_NC_a16 | call_C_a16 => exact stores_callIf _ _ _ _
  case jr_NZ_e8 | jr_Z_e8 | jr_NC_e8 | jr_C_e8 | jp_NZ_a16 | jp_Z_a16 | jp_NC_a16 | jp_C_a16 | ret_NZ | ret_Z | ret_NC | ret_C |
      halt => exact stores_branch _ rfl rfl
  case unused_D3 | unused_DB | unused_DD | unused_E3 | unused_E4 | unused_EB | unused_EC | unused_ED | unused_F4 | unused_FC |
      unused_FD => exact stores_unused _
  -- The operations that compute flags are cited by name, so that no case compares the computed values.
  case add_A_B | add_A_C | add_A_D | add_A_E | add_A_H | add_A_L | add_A_MemHL | add_A_A | add_A_n8 | adc_A_B | adc_A_C |
      adc_A_D | adc_A_E | adc_A_H | adc_A_L | adc_A_MemHL | adc_A_A | adc_A_n8 | sub_A_B | sub_A_C | sub_A_D | sub_A_E |
      sub_A_H | sub_A_L | sub_A_MemHL | sub_A_A | sub_A_n8 | sbc_A_B | sbc_A_C | sbc_A_D | sbc_A_E | sbc_A_H | sbc_A_L |
      sbc_A_MemHL | sbc_A_A | sbc_A_n8 | and_A_B | and_A_C | and_A_D | and_A_E | and_A_H | and_A_L | and_A_MemHL |
      and_A_A | and_A_n8 | xor_A_B | xor_A_C | xor_A_D | xor_A_E | xor_A_H | xor_A_L | xor_A_MemHL | xor_A_A | xor_A_n8 |
      or_A_B | or_A_C | or_A_D | or_A_E | or_A_H | or_A_L | or_A_MemHL | or_A_A | or_A_n8 | cp_A_B | cp_A_C | cp_A_D |
      cp_A_E | cp_A_H | cp_A_L | cp_A_MemHL | cp_A_A | cp_A_n8 =>
    exact stores_alu _ _ _
  case rlca | rrca | rla | rra | inc_B | inc_C | inc_D | inc_E | inc_H | inc_L | inc_A | dec_B | dec_C | dec_D | dec_E |
      dec_H | dec_L | dec_A | rlc_B | rlc_C | rlc_D | rlc_E | rlc_H | rlc_L | rlc_A | rrc_B | rrc_C | rrc_D | rrc_E |
      rrc_H | rrc_L | rrc_A | rl_B | rl_C | rl_D | rl_E | rl_H | rl_L | rl_A | rr_B | rr_C | rr_D | rr_E | rr_H | rr_L |
      rr_A | sla_B | sla_C | sla_D | sla_E | sla_H | sla_L | sla_A | sra_B | sra_C | sra_D | sra_E | sra_H | sra_L |
      sra_A | swap_B | swap_C | swap_D | swap_E | swap_H | swap_L | swap_A | srl_B | srl_C | srl_D | srl_E | srl_H |
      srl_L | srl_A =>
    exact stores_setFlags (by rfl) _ _ _ _ _
  case pop_BC | pop_DE | pop_HL | pop_AF => exact stores_pop _ _
  case reti => exact stores_reti _
  all_goals exact stores_none rfl

theorem exec_stop_memory {x : Byte} {s t : State} (h : exec (.stop x) s = .next t) : memory t = memory s := by
  obtain rfl | rfl := next_of_ite h <;> rfl

theorem exec_memory {i : Instr} {s t : State} (h : exec i s = .next t) (hs : Machine.stores i s = []) :
    memory t = memory s := by
  by_cases hi : ∃ x, i = .stop x
  · obtain ⟨x, rfl⟩ := hi
    exact exec_stop_memory h
  · have run := exec_stores s (not_exists.mp hi) t h
    rw [hs] at run
    cases run with
    | done e => exact memory_of_storage_eq e

/-- Settles O20. -/
theorem storeFrame : Obligations.StoreFrame := by
  intro i s t h plain b apart hkey1
  by_cases hi : ∃ x, i = .stop x
  · obtain ⟨x, rfl⟩ := hi
    exact busRead_of_memory_eq (exec_stop_memory h) (fun hb => hkey1 hb x rfl)
  · exact (exec_stores s (not_exists.mp hi) t h).busRead_ne plain apart

/-- Settles O19: the arrays and registers are fields of `memory`; the reads are those of a run of no stores. -/
theorem noStoreFrame : Obligations.NoStoreFrame := by
  intro i s t h hs
  have kept {α : Type} (f : State → α) (hf : ∀ u, f (memory u) = f u := by exact fun _ => rfl) : f t = f s :=
    eq_of_memory_eq (exec_memory h hs) f hf
  have nowhere : ∀ a ∈ Machine.stores i s, False := by simp [hs]
  exact ⟨kept State.wram, kept State.vram, kept State.oam, kept State.hram, kept State.bgPal, kept State.objPal,
    kept State.eram, kept State.io, kept State.ie, kept State.bootMapped, kept State.romBank, kept State.ramBank,
    kept State.ramEnable, kept State.mbc1Mode, kept State.hdmaSrc, kept State.hdmaDst, kept State.hdmaActive,
    kept State.hdmaBlocks,
    fun a ha => storeFrame i s t h (fun b hb => (nowhere b hb).elim) a (fun b hb => (nowhere b hb).elim) ha⟩

end Sys2Proof.Proofs

/-! PROOFS. ResetStarts: when a cartridge loads, in terms of its header bytes, and when a loaded cartridge starts. -/

namespace Sys2Proof.Proofs

open Sys2Proof Sys2Proof.Machine Sys2Proof.Laws

theorem mbcKindOf_isSome : ∀ t : Byte, (mbcKindOf t).isSome = true ↔
    t.toNat ∈ [0x00, 0x01, 0x02, 0x03, 0x19, 0x1A, 0x1B, 0x1C, 0x1D, 0x1E] := by decide

theorem mbcKindOf_romOnly : ∀ t : Byte, mbcKindOf t = some .romOnly ↔ t = 0x00 := by decide

theorem romBanksOf_eq_some {b : Byte} {n : Nat} : romBanksOf b = some n ↔ b.toNat ≤ 8 ∧ n = 2 * 2 ^ b.toNat := by
  unfold romBanksOf
  split <;> simp_all [eq_comm]

theorem ramSizeOf_isSome : ∀ b : Byte, (ramSizeOf b).isSome = true ↔ b.toNat ≤ 5 := by decide

theorem ramSizeOf_zero : ∀ b : Byte, ramSizeOf b = some 0 ↔ b = 0 := by decide

theorem romBanks_two (b : Byte) : 2 * 2 ^ b.toNat = 2 ↔ b = 0 := by
  rw [Nat.mul_eq_left (by decide), Nat.pow_eq_one]
  simp [BitVec.toNat_eq]

/-- A cartridge loads exactly when each of its header bytes has a meaning and the sizes fit (20 R99). -/
theorem loadCart_ok_iff (img : CartImage) :
    (∃ p, loadCart img = .ok p) ↔ ∃ kind banks ram, mbcKindOf img.typeByte = some kind ∧
      romBanksOf img.romSizeByte = some banks ∧ ramSizeOf img.ramSizeByte = some ram ∧ img.romLength = banks * 16384 ∧
      (kind = .romOnly → banks = 2 ∧ ram = 0) := by
  constructor
  · rintro ⟨p, h⟩
    unfold loadCart at h
    split at h
    · cases h
    next kind hkind =>
    split at h
    next banks ram hbanks hram =>
      split at h
      · cases h
      next fits =>
        obtain ⟨hlen, hrom⟩ := not_or.mp fits
        refine ⟨kind, banks, ram, hkind, hbanks, hram, not_not.mp hlen, fun hk => ?_⟩
        simpa [hk] using hrom
    · cases h
  · rintro ⟨kind, banks, ram, hkind, hbanks, hram, hlen, hrom⟩
    have fits : ¬(img.romLength ≠ banks * 16384 ∨ (kind = .romOnly ∧ (banks ≠ 2 ∨ ram ≠ 0))) := by
      rintro (h | ⟨hk, h⟩)
      · exact h hlen
      · obtain ⟨hb, hr⟩ := hrom hk
        exact h.elim (· hb) (· hr)
    rw [loadCart, hkind, hbanks, hram]
    exact ⟨_, if_neg fits⟩

/-- The same, with each header byte's meaning written out. -/
theorem loadCart_ok_iff_header (img : CartImage) :
    (∃ p, loadCart img = .ok p) ↔
      img.typeByte.toNat ∈ [0x00, 0x01, 0x02, 0x03, 0x19, 0x1A, 0x1B, 0x1C, 0x1D, 0x1E] ∧
      img.romSizeByte.toNat ≤ 8 ∧ img.ramSizeByte.toNat ≤ 5 ∧ img.romLength = 2 * 2 ^ img.romSizeByte.toNat * 16384 ∧
      (img.typeByte = 0x00 → img.romSizeByte = 0 ∧ img.ramSizeByte = 0) := by
  rw [loadCart_ok_iff, ← mbcKindOf_isSome, ← ramSizeOf_isSome, Option.isSome_iff_exists, Option.isSome_iff_exists]
  constructor
  · rintro ⟨kind, banks, ram, hkind, hbanks, hram, hlen, hrom⟩
    obtain ⟨hsize, rfl⟩ := romBanksOf_eq_some.mp hbanks
    refine ⟨⟨kind, hkind⟩, hsize, ⟨ram, hram⟩, hlen, fun ht => ?_⟩
    obtain ⟨hb, rfl⟩ := hrom (Option.some.inj (hkind.symm.trans ((mbcKindOf_romOnly _).mpr ht)))
    exact ⟨(romBanks_two _).mp hb, (ramSizeOf_zero _).mp hram⟩
  · rintro ⟨⟨kind, hkind⟩, hsize, ⟨ram, hram⟩, hlen, hrom⟩
    refine ⟨kind, _, ram, hkind, romBanksOf_eq_some.mpr ⟨hsize, rfl⟩, hram, hlen, ?_⟩
    rintro rfl
    obtain ⟨hb, hr⟩ := hrom ((mbcKindOf_romOnly _).mp hkind)
    exact ⟨(romBanks_two _).mpr hb, Option.some.inj (hram.symm.trans ((ramSizeOf_zero _).mpr hr))⟩

/-- A reset starts exactly when the cartridge loads and the BOOT_ROM profile has its image (70 R450). -/
theorem reset_ok_iff (img : CartImage) (boot : Option (List Host.Cell)) (profile : ResetProfile) (params : Params) (d : Draw)
    (joyp : Byte) :
    (∃ s, reset img boot profile params d joyp = .ok s) ↔
      (∃ p, loadCart img = .ok p) ∧ (profile = .bootRom → boot.isSome = true) := by
  constructor
  · rintro ⟨s, h⟩
    obtain ⟨hload, mapped⟩ := reset_loads h
    refine ⟨⟨_, hload⟩, ?_⟩
    rintro rfl
    obtain ⟨cart, eram, -, rfl⟩ := reset_ok h
    simpa [resetState] using mapped rfl
  · rintro ⟨⟨⟨cart, eram⟩, hload⟩, hboot⟩
    have valid : (!tableValid Machine.regionTable) = false := by decide
    unfold reset
    rw [valid, hload]
    cases profile
    case postBoot => exact ⟨_, rfl⟩
    case bootRom =>
      obtain ⟨cells, rfl⟩ := Option.isSome_iff_exists.mp (hboot rfl)
      exact ⟨_, rfl⟩

/-- Settles O35. -/
theorem resetStarts : Obligations.ResetStarts := by
  intro img boot profile params d joyp
  rw [reset_ok_iff, loadCart_ok_iff_header]
  simp only [and_assoc]

end Sys2Proof.Proofs

/-! PROOFS. Encoding and decoding: every instruction's bytes and table entry, every table entry's bytes, and what `decode`
gives in terms of the entry's size. DecodeEncode, EncodeDecode, DecodeTotal, LengthFromFirstByte, DecodeWords, CbPrefix. -/

namespace Sys2Proof.Proofs

open Sys2Proof Sys2Proof.Machine Sys2Proof.Laws

/-! ### From an instruction to its table entry -/

/-- The bytes of an instruction, by its format (30 R140), and the table entry they select, which gives the instruction
back. -/
inductive Coded (i : Instr) : Prop
  | op {b : Byte} (bytes : encode i = [b]) (entry : baseEntry b = .op i)
  | imm8 {b n : Byte} {f : Byte → Instr} (bytes : encode i = [b, n]) (entry : baseEntry b = .imm8 f) (operand : f n = i)
  | imm16 {b : Byte} {nn : Word} {f : Word → Instr} (bytes : encode i = [b, loByte nn, hiByte nn])
      (entry : baseEntry b = .imm16 f) (operand : f nn = i)
  | cb {sub : Byte} (bytes : encode i = [0xCB, sub]) (entry : cbInstr sub = i)

theorem coded_of_wellFormed {i : Instr} (h : wellFormed i = true) : Coded i := by
  cases i
  case cbPrefix => cases h
  case ld_BC_n16 | ld_DE_n16 | ld_HL_n16 | ld_SP_n16 | ld_MemA16_SP | ld_MemA16_A | ld_A_MemA16 | jp_a16 | jp_NZ_a16 |
      jp_Z_a16 | jp_NC_a16 | jp_C_a16 | call_a16 | call_NZ_a16 | call_Z_a16 | call_NC_a16 | call_C_a16 =>
    exact .imm16 rfl rfl rfl
  case ld_B_n8 | ld_C_n8 | ld_D_n8 | ld_E_n8 | ld_H_n8 | ld_L_n8 | ld_MemHL_n8 | ld_A_n8 | ldh_MemA8_A | ldh_A_MemA8 |
      add_A_n8 | adc_A_n8 | sub_A_n8 | sbc_A_n8 | and_A_n8 | xor_A_n8 | or_A_n8 | cp_A_n8 | add_SP_e8 | ld_HL_SPe8 |
      jr_e8 | jr_NZ_e8 | jr_Z_e8 | jr_NC_e8 | jr_C_e8 | stop =>
    exact .imm8 rfl rfl rfl
  -- What is left takes no operand: one byte, or two of which the first is 0xCB.
  all_goals first | exact .op rfl rfl | exact .cb rfl rfl

/-- Settles O1: `decode` by the format of the instruction's bytes. -/
theorem decodeEncode : Obligations.DecodeEncode := by
  intro i rest h
  cases coded_of_wellFormed h with
  | op bytes entry => rw [bytes]; exact decode_op entry rest
  | imm8 bytes entry operand => rw [bytes, ← operand]; exact decode_imm8 entry _ rest
  | @imm16 b nn f bytes entry operand =>
    rw [bytes, ← operand]
    simpa using decode_imm16 entry (loByte nn) (hiByte nn) rest
  | cb bytes entry => rw [bytes, ← entry]; exact decode_cb _ rest

/-! ### From a table entry to its bytes -/

/-- What an entry gives is encoded with the opcode byte `b` and the operand it was given. -/
def EntryEncodes (b : Byte) : Entry → Prop
  | .op i => encode i = [b]
  | .imm8 f => (fun n => encode (f n)) = fun n => [b, n]
  | .imm16 f => (fun nn => encode (f nn)) = fun nn => [b, loByte nn, hiByte nn]
  | .cb => b = 0xCB

/-- Every entry of a part of the table that starts at opcode `o`. -/
def EntriesEncode : Nat → List Entry → Prop
  | _, [] => True
  | o, e :: es => EntryEncodes (byte o) e ∧ EntriesEncode (o + 1) es

theorem EntriesEncode.getElem {o : Nat} {es : List Entry} (h : EntriesEncode o es) {k : Nat} (hk : k < es.length) :
    EntryEncodes (byte (o + k)) es[k] := by
  induction es generalizing o k with
  | nil => cases hk
  | cons e es ih =>
    obtain ⟨he, hes⟩ := h
    cases k with
    | zero => exact he
    | succ k =>
      rw [show o + (k + 1) = o + 1 + k by omega]
      exact ih hes (Nat.lt_of_succ_lt_succ hk)

/-- One pass over the table: each of the 256 conjuncts computes. -/
theorem baseTable_encodes : EntriesEncode 0 baseTable := by repeat' constructor

theorem baseEntry_encodes (b : Byte) : EntryEncodes b (baseEntry b) := by
  have h := baseTable_encodes.getElem (k := b.toNat) (baseTable_length ▸ b.isLt)
  rwa [Nat.zero_add, byte, BitVec.ofNat_toNat, BitVec.setWidth_eq] at h

theorem cbTable_encode : cbTable.map encode = (List.range 256).map fun k => [0xCB, byte k] := by decide +kernel

theorem encode_cbInstr (sub : Byte) : encode (cbInstr sub) = [0xCB, sub] := by
  have h := congrArg (·[sub.toNat]?) cbTable_encode
  simpa [cbInstr, byte, sub.isLt, cbTable_length] using h

/-! ### Sizes -/

/-- The length of the instructions of an entry (30 R140, R144). -/
def entrySize : Entry → Nat
  | .op _ => 1
  | .imm8 _ => 2
  | .imm16 _ => 3
  | .cb => 2

theorem entrySize_pos (e : Entry) : 1 ≤ entrySize e := by cases e <;> simp [entrySize]

theorem entrySize_le (e : Entry) : entrySize e ≤ 3 := by cases e <;> simp [entrySize]

theorem decodeWindow_size (b0 b1 b2 : Byte) : (decodeWindow b0 b1 b2).2 = entrySize (baseEntry b0) := by
  unfold decodeWindow
  cases baseEntry b0 <;> rfl

theorem decode_cons (b : Byte) (bs : List Byte) :
    decode (b :: bs) = if bs.length + 1 < entrySize (baseEntry b) then .error .truncated
      else .ok ((decodeWindow b (bs.getD 0 0) (bs.getD 1 0)).1, (b :: bs).drop (entrySize (baseEntry b))) := by
  rw [← decodeWindow_size b (bs.getD 0 0) (bs.getD 1 0)]
  rfl

/-- What decodes has the bytes it was decoded from, as many as the entry of the first one says. -/
theorem encode_of_decode {b : Byte} {bs rest : List Byte} {i : Instr} (h : decode (b :: bs) = .ok (i, rest)) :
    encode i ++ rest = b :: bs ∧ i.length = entrySize (baseEntry b) := by
  have hbytes := baseEntry_encodes b
  have hdecode := decode_cases h
  generalize baseEntry b = e at hbytes hdecode
  unfold Instr.length
  cases e with
  | op j => obtain ⟨rfl, rfl⟩ := hdecode; rw [hbytes]; exact ⟨rfl, rfl⟩
  | imm8 f => obtain ⟨n, rfl, rfl⟩ := hdecode; rw [congrFun hbytes n]; exact ⟨rfl, rfl⟩
  | imm16 f =>
    obtain ⟨lo, hi, rfl, rfl⟩ := hdecode
    rw [congrFun hbytes (joinBytes hi lo), loByte_joinBytes, hiByte_joinBytes]
    exact ⟨rfl, rfl⟩
  | cb => obtain ⟨sub, rfl, rfl⟩ := hdecode; rw [encode_cbInstr, hbytes]; exact ⟨rfl, rfl⟩

theorem wellFormed_iff {i : Instr} : wellFormed i = true ↔ i ≠ .cbPrefix := by
  unfold wellFormed
  split <;> simp_all

/-- The encoding of the 0xCB row is that one byte, whose entry says two. -/
theorem decode_ne_cbPrefix {bs rest : List Byte} {i : Instr} (h : decode bs = .ok (i, rest)) : i ≠ .cbPrefix := by
  rintro rfl
  cases bs with
  | nil => cases h
  | cons b bs =>
    obtain ⟨bytes, size⟩ := encode_of_decode h
    cases bytes
    exact absurd size (by decide +kernel)

/-- Settles O2. -/
theorem encodeDecode : Obligations.EncodeDecode := by
  intro bs rest i h
  refine ⟨wellFormed_iff.mpr (decode_ne_cbPrefix h), ?_⟩
  cases bs with
  | nil => cases h
  | cons b bs => exact (encode_of_decode h).1

/-- Settles O3: no entry asks for more than three bytes. -/
theorem decodeTotal : Obligations.DecodeTotal := by
  intro bs hlen
  cases bs with
  | nil => cases hlen
  | cons b bs =>
    have h := decode_cons b bs
    rw [if_neg (by have := entrySize_le (baseEntry b); simp only [List.length_cons] at hlen; omega)] at h
    exact ⟨_, _, h, wellFormed_iff.mpr (decode_ne_cbPrefix h)⟩

/-- Settles O4: the sizes of the 256 entries, read off the table. -/
theorem lengthFromFirstByte : Obligations.LengthFromFirstByte := by
  intro b bs rest i h
  rw [(encode_of_decode h).2]
  clear h
  revert b
  decide +kernel

/-- Settles O5. -/
theorem decodeWords : Obligations.DecodeWords :=
  ⟨rfl, rfl, rfl, rfl, rfl, rfl, rfl, rfl, rfl, rfl, rfl, rfl, rfl, rfl, rfl, rfl, rfl, rfl, rfl⟩

/-- Settles O6. -/
theorem cbPrefix : Obligations.CbPrefix :=
  ⟨fun _ _ _ => decode_ne_cbPrefix, fun sub rest => ⟨cbInstr sub, decode_cb sub rest, encode_cbInstr sub⟩,
    decode_cb 0xCB [], fun _ => rfl⟩

end Sys2Proof.Proofs

/-! PROOFS. StepRunsDecoded: the fetch in terms of `decode`, and a RUN step in terms of the fetch. -/

namespace Sys2Proof.Proofs

open Sys2Proof Sys2Proof.Machine Sys2Proof.Laws

theorem decodeWindow_of_decode {b0 b1 b2 : Byte} {rest : List Byte} {i : Instr}
    (h : decode [b0, b1, b2] = .ok (i, rest)) : decodeWindow b0 b1 b2 = (i, i.length) := by
  have hsize := decodeWindow_size b0 b1 b2
  rw [← (encode_of_decode h).2] at hsize
  have hfits : ¬[b1, b2].length + 1 < entrySize (baseEntry b0) := Nat.not_lt.mpr (entrySize_le _)
  rw [decode_cons, if_neg hfits] at h
  cases h
  exact Prod.ext rfl hsize

theorem length_pos_of_decode {b : Byte} {bs rest : List Byte} {i : Instr} (h : decode (b :: bs) = .ok (i, rest)) :
    1 ≤ i.length :=
  (encode_of_decode h).2 ▸ entrySize_pos _

/-- The fetch leaves PC past the instruction, counted from the byte after the opcode (30 R146). -/
theorem fetch_of_decode {s : State} {i : Instr} {rest : List Byte}
    (h : decode [s.busRead s.pc, s.busRead s.afterOpcode, s.busRead (s.afterOpcode + 1)] = .ok (i, rest)) :
    s.fetch = (i, { s with pc := s.afterOpcode + BitVec.ofNat 16 i.length - 1, haltBug := false }) := by
  have hpc : s.afterOpcode + BitVec.ofNat 16 (i.length - 1) = s.afterOpcode + BitVec.ofNat 16 i.length - 1 := by
    obtain ⟨n, hn⟩ := Nat.exists_eq_add_of_le' (length_pos_of_decode h)
    rw [hn, BitVec.ofNat_add, Nat.add_sub_cancel, ← BitVec.add_assoc]
    exact (BitVec.add_sub_cancel _ _).symm
  unfold State.fetch State.decodeAtPc
  rw [decodeWindow_of_decode h]
  dsimp only
  rw [hpc]

/-- A RUN step: the fetched instruction's meaning, then the EI delay and the interrupt check (30 R147). -/
theorem step_of_fetch {s u : State} {i : Instr} (hrun : s.running = true) (hfetch : s.fetch = (i, u)) :
    step s =
      match exec i u with
      | .next t => .next (t.finish s.eiPending i)
      | .fault r => .fault r
      | .refused r => .refused r := by
  obtain ⟨hhalted, hstopped⟩ : s.halted = false ∧ s.stopped = false := by simpa [State.running] using hrun
  have hi : s.fetch.1 = i := congrArg Prod.fst hfetch
  have hu : s.fetch.2 = u := congrArg Prod.snd hfetch
  unfold step
  rw [hhalted, hstopped, hi, hu]
  cases exec i u <;> rfl

/-- Settles O7: the two fetches differ in the address after the opcode. -/
theorem stepRunsDecoded : Obligations.StepRunsDecoded := by
  refine ⟨fun s i rest hrun hbug h => ?_, fun s i rest hrun hbug h => ?_⟩
  · have hafter : s.afterOpcode = s.pc + 1 := by simp [State.afterOpcode, hbug]
    have hnext : s.pc + 1 + 1 = s.pc + 2 := by bv_omega
    have hpc : s.pc + 1 + BitVec.ofNat 16 i.length - 1 = s.pc + BitVec.ofNat 16 i.length := by bv_omega
    have hfetch := fetch_of_decode (s := s) (i := i) (rest := rest) (by rw [hafter, hnext]; exact h)
    rw [hafter, hpc] at hfetch
    exact step_of_fetch hrun hfetch
  · have hafter : s.afterOpcode = s.pc := by simp [State.afterOpcode, hbug]
    have hfetch := fetch_of_decode (s := s) (i := i) (rest := rest) (by rw [hafter]; exact h)
    rw [hafter] at hfetch
    exact step_of_fetch hrun hfetch

end Sys2Proof.Proofs

/-! PROOFS. CyclesTable: what each operation charges, by the way it makes its next state; one case split over the instructions
compares it with the tables. -/

namespace Sys2Proof.Proofs

open Sys2Proof Sys2Proof.Machine Sys2Proof.Laws

/-- Where the answer is a next state, it is `k` ticks later. -/
def Charges (s : State) (r : Result) (k : Nat) : Prop := ∀ t, r = .next t → t.cycles = s.cycles + k

section Charges

variable {s : State}

theorem charges_tick {u : State} (h : u.cycles = s.cycles) (k : Nat) : Charges s (.next (u.tick k)) k := by
  rintro _ ⟨⟩
  rw [tick_cycles, h]

theorem charges_write (a : Word) (v : Byte) (k : Nat) : Charges s (.next ((s.busWrite a v).tick k)) k :=
  charges_tick (busWrite_cycles s a v) k

theorem charges_stAStep (delta : Word) (k : Nat) : Charges s (stAStep delta k s) k :=
  charges_tick (u := (s.busWrite s.hl s.a).setHl (s.hl + delta)) (busWrite_cycles s _ _) k

theorem charges_ldMemSp (addr : Word) (k : Nat) : Charges s (ldMemSp addr k s) k :=
  charges_tick ((busWrite_cycles _ _ _).trans (busWrite_cycles s _ _)) k

theorem charges_setR8 (r : R8) (v : Byte) (k : Nat) : Charges s (.next ((s.setR8 r v).tick k)) k :=
  charges_tick (cycles_setR8 s r v) k

theorem charges_setR8Flags (r : R8) (v : Byte) (o : FlagResult) (k : Nat) :
    Charges s (.next (((s.setR8 r v).putFlags o).tick k)) k :=
  charges_tick (u := (s.setR8 r v).putFlags o) (cycles_setR8 s r v) k

theorem charges_push (p : R16Stk) (k : Nat) : Charges s (push p k s) k := charges_tick (push16_cycles s _) k

theorem charges_call (target : Word) (k : Nat) : Charges s (call target k s) k :=
  charges_tick (u := (s.push16 s.pc).setPc target) (push16_cycles s _) k

theorem charges_ite {r r' : Result} {j k : Nat} (c : Bool) (hr : Charges s r j) (hr' : Charges s r' k) :
    Charges s (if c then r else r') (if c then j else k) := by
  cases c
  · exact hr'
  · exact hr

theorem charges_jumpIf (cond : Cond) (target : Word) (j k : Nat) :
    Charges s (jumpIf cond target j k s) (if s.holds cond then j else k) :=
  charges_ite _ (charges_tick rfl j) (charges_tick rfl k)

theorem charges_callIf (cond : Cond) (target : Word) (j k : Nat) :
    Charges s (callIf cond target j k s) (if s.holds cond then j else k) :=
  charges_ite _ (charges_call target j) (charges_tick rfl k)

theorem charges_retIf (cond : Cond) (j k : Nat) : Charges s (retIf cond j k s) (if s.holds cond then j else k) :=
  charges_ite _ (charges_tick rfl j) (charges_tick rfl k)

theorem charges_branch {t u : State} {k : Nat} {c : Prop} [Decidable c] (ht : t.cycles = s.cycles + k)
    (hu : u.cycles = s.cycles + k) : Charges s (if c then .next t else .next u) k := by
  rintro _ h
  obtain rfl | rfl := next_of_ite h
  · exact ht
  · exact hu

theorem charges_unused (k : Nat) : Charges s (unusedOp k s) k := by
  unfold unusedOp
  split
  · exact charges_tick rfl k
  · rintro _ ⟨⟩

end Charges

/-- A conditional instruction's count, by its condition. -/
theorem cycles_taken (i : Instr) (c : Bool) : i.cycles c = if c then i.cycles true else i.cycles false := by
  cases c <;> rfl

/-- An instruction charges its own count. -/
theorem exec_charges (i : Instr) (s : State) : Charges s (exec i s) (i.cycles (takenIn i s)) := by
  rw [cycles_taken]
  cases i
  case jr_NZ_e8 | jr_Z_e8 | jr_NC_e8 | jr_C_e8 | jp_NZ_a16 | jp_Z_a16 | jp_NC_a16 | jp_C_a16 => exact charges_jumpIf _ _ _ _
  case call_NZ_a16 | call_Z_a16 | call_NC_a16 | call_C_a16 => exact charges_callIf _ _ _ _
  case ret_NZ | ret_Z | ret_NC | ret_C => exact charges_retIf _ _ _
  case halt | stop => exact charges_branch rfl rfl
  case unused_D3 | unused_DB | unused_DD | unused_E3 | unused_E4 | unused_EB | unused_EC | unused_ED | unused_F4 | unused_FC |
      unused_FD => exact charges_unused _
  case ld_MemBC_A | ld_MemDE_A | ld_MemA16_A | ldh_MemA8_A | ld_MemC_A => exact charges_write _ _ _
  case ld_MemHLInc_A | ld_MemHLDec_A => exact charges_stAStep _ _
  case ld_MemA16_SP => exact charges_ldMemSp _ _
  case ld_MemHL_B | ld_MemHL_C | ld_MemHL_D | ld_MemHL_E | ld_MemHL_H | ld_MemHL_L | ld_MemHL_A | ld_MemHL_n8 |
      res_0_MemHL | res_1_MemHL | res_2_MemHL | res_3_MemHL | res_4_MemHL | res_5_MemHL | res_6_MemHL | res_7_MemHL |
      set_0_MemHL | set_1_MemHL | set_2_MemHL | set_3_MemHL | set_4_MemHL | set_5_MemHL | set_6_MemHL | set_7_MemHL =>
    exact charges_setR8 _ _ _
  case inc_MemHL | dec_MemHL | rlc_MemHL | rrc_MemHL | rl_MemHL | rr_MemHL | sla_MemHL | sra_MemHL | swap_MemHL | srl_MemHL =>
    exact charges_setR8Flags _ _ _ _
  case push_BC | push_DE | push_HL | push_AF => exact charges_push _ _
  case call_a16 | rst_00 | rst_08 | rst_10 | rst_18 | rst_20 | rst_28 | rst_30 | rst_38 => exact charges_call _ _
  -- The operations left write registers, flags or engine bits only.
  all_goals exact charges_tick rfl _

/-- Settles O16. -/
theorem cyclesTable : Obligations.CyclesTable := exec_charges

end Sys2Proof.Proofs

/-! PROOFS. The 8-bit loads: the opcode byte of `LD r,r'` and `LD r,n8` by its fields, then each operation as its next state. -/

namespace Sys2Proof.Proofs

open Sys2Proof Sys2Proof.Machine Sys2Proof.Laws

/-! ### `LD r,r'` and `LD r,n8` by their operands -/

/-- The opcode byte selects the two operands by their indices (30 R143); both at (HL) is HALT, not a load (40 R201, R203,
R204). -/
theorem decode_ldReg {dst src : R8} (h : dst ≠ .mHL ∨ src ≠ .mHL) (s : State) :
    ∃ i, decode [byte (0x40 + 8 * dst.index + src.index)] = .ok (i, []) ∧
      exec i s = ldReg dst src (if dst = .mHL ∨ src = .mHL then 8 else 4) s := by
  cases dst
  case mHL =>
    cases src
    case mHL => simp at h
    all_goals exact ⟨_, decode_op rfl [], rfl⟩
  all_goals cases src <;> exact ⟨_, decode_op rfl [], rfl⟩

/-- The opcode byte selects the operand by its index, and the byte is the next one (30 R143; 40 R202, R205). -/
theorem decode_ldImm (dst : R8) (n : Byte) (s : State) :
    ∃ i, decode [byte (0x06 + 8 * dst.index), n] = .ok (i, []) ∧
      exec i s = ldImm dst n (if dst = .mHL then 12 else 8) s := by
  cases dst <;> exact ⟨_, decode_imm8 rfl n [], rfl⟩

/-- Settles O36: each opcode is `ldReg` or `ldImm` of its operands, whose whole effect is `ldReg_spec` or `ldImm_spec`. -/
theorem loadRegister : Obligations.LoadRegister := by
  refine ⟨fun dst src s hdst => ?_, fun dst n s hdst => ?_⟩
  · obtain ⟨i, hdecode, hexec⟩ := decode_ldReg (.inl hdst) s
    obtain ⟨t, hnext, hwrites, hf, hcycles⟩ := ldReg_spec s dst src (if dst = .mHL ∨ src = .mHL then 8 else 4)
    exact ⟨i, t, hdecode, hexec.trans hnext, hwrites, hf, by simpa [hdst] using hcycles⟩
  · obtain ⟨i, hdecode, hexec⟩ := decode_ldImm dst n s
    obtain ⟨t, hnext, hwrites, hf, hcycles⟩ := ldImm_spec s dst n (if dst = .mHL then 12 else 8)
    exact ⟨i, t, hdecode, hexec.trans hnext, hwrites, hf, by simpa [hdst] using hcycles⟩

/-! ### The operations on memory, as the next state -/

/-- A bus write leaves the clock, so a cost charged after it counts from the clock before it. -/
theorem busWrite_tick (s : State) (addr : Word) (v : Byte) (k : Nat) :
    (s.busWrite addr v).tick k = { s.busWrite addr v with cycles := s.cycles + k } := by
  rw [State.tick, busWrite_cycles]

/-- Adding the word of all ones steps down by one. -/
theorem add_0xFFFF (w : Word) : w + 0xFFFF = w - 1 := (BitVec.sub_eq_add_neg w 1).symm

section Loads

variable (s : State)

theorem ldReg_mHL (src : R8) (k : Nat) :
    ldReg .mHL src k s = .next { s.busWrite s.hl (s.r8 src) with cycles := s.cycles + k } :=
  congrArg _ (busWrite_tick s _ _ k)

theorem ldImm_mHL (n : Byte) (k : Nat) :
    ldImm .mHL n k s = .next { s.busWrite s.hl n with cycles := s.cycles + k } :=
  congrArg _ (busWrite_tick s _ _ k)

theorem ldAFrom_eq (addr : Word) (k : Nat) :
    ldAFrom addr k s = .next { s with af := joinBytes (s.busRead addr) s.f, cycles := s.cycles + k } := rfl

theorem ldAFrom_highPage (a : Byte) (k : Nat) :
    ldAFrom (highPage a) k s =
      .next { s with af := joinBytes (s.busRead (0xFF00 + a.setWidth 16)) s.f, cycles := s.cycles + k } := by
  rw [ldAFrom_eq, highPage_eq]

theorem ldAInto_eq (addr : Word) (k : Nat) :
    ldAInto addr k s = .next { s.busWrite addr s.a with cycles := s.cycles + k } :=
  congrArg _ (busWrite_tick s _ _ k)

theorem ldAInto_highPage (a : Byte) (k : Nat) :
    ldAInto (highPage a) k s = .next { s.busWrite (0xFF00 + a.setWidth 16) s.a with cycles := s.cycles + k } := by
  rw [ldAInto_eq, highPage_eq]

theorem ldAStep_up (k : Nat) :
    ldAStep 1 k s = .next { s with af := joinBytes (s.busRead s.hl) s.f, hl := s.hl + 1, cycles := s.cycles + k } := rfl

theorem ldAStep_down (k : Nat) :
    ldAStep 0xFFFF k s =
      .next { s with af := joinBytes (s.busRead s.hl) s.f, hl := s.hl - 1, cycles := s.cycles + k } := by
  rw [← add_0xFFFF]
  rfl

theorem stAStep_eq (delta : Word) (k : Nat) :
    stAStep delta k s = .next { s.busWrite s.hl s.a with hl := s.hl + delta, cycles := s.cycles + k } := by
  simp only [stAStep, State.tick, State.setHl, busWrite_cycles]

theorem stAStep_down (k : Nat) :
    stAStep 0xFFFF k s = .next { s.busWrite s.hl s.a with hl := s.hl - 1, cycles := s.cycles + k } := by
  rw [stAStep_eq, add_0xFFFF]

end Loads

/-- Settles O37: `LD (HL),r` is the row of `decode_ldReg` whose destination is (HL). -/
theorem storeAtHl : Obligations.StoreAtHl := by
  refine ⟨fun src s hsrc => ?_, fun n s => ?_⟩
  · obtain ⟨i, hdecode, hexec⟩ := decode_ldReg (dst := .mHL) (.inr hsrc) s
    exact ⟨i, hdecode, hexec.trans (ldReg_mHL s src 8)⟩
  · exact ⟨.ld_MemHL_n8 n, decode_imm8 rfl n [], ldImm_mHL s n 12⟩

/-- Settles O38, form by form. -/
theorem loadA : Obligations.LoadA := fun s =>
  ⟨⟨.ld_A_MemBC, decode_op rfl [], ldAFrom_eq s s.bc 8⟩,
    ⟨.ld_A_MemDE, decode_op rfl [], ldAFrom_eq s s.de 8⟩,
    fun lo hi => ⟨.ld_A_MemA16 _, decode_imm16 rfl lo hi [], ldAFrom_eq s _ 16⟩,
    fun a8 => ⟨.ldh_A_MemA8 a8, decode_imm8 rfl a8 [], ldAFrom_highPage s a8 12⟩,
    ⟨.ld_A_MemC, decode_op rfl [], ldAFrom_highPage s s.c 8⟩,
    ⟨.ld_A_MemHLInc, decode_op rfl [], ldAStep_up s 8⟩,
    ⟨.ld_A_MemHLDec, decode_op rfl [], ldAStep_down s 8⟩⟩

/-- Settles O39, form by form. -/
theorem storeA : Obligations.StoreA := fun s =>
  ⟨⟨.ld_MemBC_A, decode_op rfl [], ldAInto_eq s s.bc 8⟩,
    ⟨.ld_MemDE_A, decode_op rfl [], ldAInto_eq s s.de 8⟩,
    fun lo hi => ⟨.ld_MemA16_A _, decode_imm16 rfl lo hi [], ldAInto_eq s _ 16⟩,
    fun a8 => ⟨.ldh_MemA8_A a8, decode_imm8 rfl a8 [], ldAInto_highPage s a8 12⟩,
    ⟨.ld_MemC_A, decode_op rfl [], ldAInto_highPage s s.c 8⟩,
    ⟨.ld_MemHLInc_A, decode_op rfl [], stAStep_eq s 1 8⟩,
    ⟨.ld_MemHLDec_A, decode_op rfl [], stAStep_down s 8⟩⟩

end Sys2Proof.Proofs

/-! PROOFS. The 16-bit loads, the stack and the 16-bit arithmetic: the opcode byte by its operand's index, then each operation
as its next state or by its effect in Laws/Effects. -/

namespace Sys2Proof.Proofs

open Sys2Proof Sys2Proof.Machine Sys2Proof.Laws

/-! ### The opcode byte selects the operand by its index (30 R143) -/

section Decoding

variable (s : State)

theorem decode_ldImm16 (p : R16) (lo hi : Byte) :
    ∃ i, decode [byte (0x01 + 16 * p.index), lo, hi] = .ok (i, []) ∧ exec i s = ldImm16 p (joinBytes hi lo) 12 s := by
  cases p <;> exact ⟨_, decode_imm16 rfl lo hi [], rfl⟩

theorem decode_incR16 (p : R16) :
    ∃ i, decode [byte (0x03 + 16 * p.index)] = .ok (i, []) ∧ exec i s = incR16 p 8 s := by
  cases p <;> exact ⟨_, decode_op rfl [], rfl⟩

theorem decode_addHl (p : R16) :
    ∃ i, decode [byte (0x09 + 16 * p.index)] = .ok (i, []) ∧ exec i s = addHl p 8 s := by
  cases p <;> exact ⟨_, decode_op rfl [], rfl⟩

theorem decode_decR16 (p : R16) :
    ∃ i, decode [byte (0x0B + 16 * p.index)] = .ok (i, []) ∧ exec i s = decR16 p 8 s := by
  cases p <;> exact ⟨_, decode_op rfl [], rfl⟩

theorem decode_push (p : R16Stk) :
    ∃ i, decode [byte (0xC5 + 16 * p.index)] = .ok (i, []) ∧ exec i s = push p 16 s := by
  cases p <;> exact ⟨_, decode_op rfl [], rfl⟩

end Decoding

/-! ### The stack, as the next state -/

section Stack

variable (s : State) (k : Nat)

theorem ldMemSp_eq (addr : Word) :
    ldMemSp addr k s =
      .next { (s.busWrite addr (loByte s.sp)).busWrite (addr + 1) (hiByte s.sp) with cycles := s.cycles + k } := by
  rw [ldMemSp, busWrite_tick, busWrite_cycles]

theorem push_eq (p : R16Stk) : push p k s = .next { Pushed s (s.r16stk p) with cycles := s.cycles + k } := by
  rw [push, State.tick, push16_cycles, push16_pushed]

/-- POP AF splits the word it pops, so it masks the byte read at SP (41 R235). -/
theorem pop_af :
    pop .af k s =
      .next { s with
        af := joinBytes (s.busRead (s.sp + 1)) (s.busRead s.sp &&& 0xF0), sp := s.sp + 2, cycles := s.cycles + k } := by
  have hset : s.dropTop.setR16stk .af s.top16 =
      { s with af := joinBytes (s.busRead (s.sp + 1)) (s.busRead s.sp &&& 0xF0), sp := s.sp + 2 } := by
    simp only [State.setR16stk, State.setAf, State.top16, hiByte_joinBytes, loByte_joinBytes, State.dropTop, State.setSp]
  rw [pop, hset, State.tick]

end Stack

/-- Settles O40, form by form. -/
theorem stackAndStoreSp : Obligations.StackAndStoreSp := by
  refine ⟨fun lo hi s => ⟨.ld_MemA16_SP _, decode_imm16 rfl lo hi [], ldMemSp_eq s 20 _⟩, fun p s => ?_, fun s => ?_⟩
  · obtain ⟨i, hdecode, hexec⟩ := decode_push s p
    exact ⟨i, hdecode, hexec.trans (push_eq s 16 p)⟩
  · exact ⟨_, rfl, ⟨.pop_BC, decode_op rfl [], rfl⟩, ⟨.pop_DE, decode_op rfl [], rfl⟩, ⟨.pop_HL, decode_op rfl [], rfl⟩,
      ⟨.pop_AF, decode_op rfl [], pop_af s 12⟩⟩

/-! ### The 16-bit registers, by the effect of each operation -/

/-- What a decoded operation does, the decoded instruction does. -/
theorem exists_next_of_decode {bs : List Byte} {s : State} {r : Result} {P : State → Prop}
    (hdecode : ∃ i, decode bs = .ok (i, []) ∧ exec i s = r) (hop : ∃ t, r = .next t ∧ P t) :
    ∃ i t, decode bs = .ok (i, []) ∧ exec i s = .next t ∧ P t := by
  obtain ⟨i, hi, hexec⟩ := hdecode
  obtain ⟨t, hnext, ht⟩ := hop
  exact ⟨i, t, hi, hexec.trans hnext, ht⟩

theorem ofInt_toNat_sub_one (w : Word) : BitVec.ofInt 16 (w.toNat - 1) = w - 1 := by
  rw [Int.sub_eq_add_neg, BitVec.ofInt_add]
  simp [BitVec.sub_eq_add_neg]

/-- Settles O42: each form's operation has its effect said in Laws/Effects; the sums in numbers are sums of words. -/
theorem reg16 : Obligations.Reg16 := by
  refine ⟨fun p lo hi s => ?_, fun s => ?_, fun p s => ?_, fun p s => ?_, fun p s => ?_⟩
  · exact exists_next_of_decode (decode_ldImm16 s p lo hi) (ldImm16_spec s p _ 12)
  · exact exists_next_of_decode ⟨.ld_SP_HL, decode_op rfl [], rfl⟩ (ldSpHl_spec s 8)
  · have hsum : BitVec.ofNat 16 ((s.r16 p).toNat + 1) = s.r16 p + 1 := (BitVec.add_def _ 1).symm
    rw [hsum]
    exact exists_next_of_decode (decode_incR16 s p) (incR16_spec s p 8)
  · rw [ofInt_toNat_sub_one]
    exact exists_next_of_decode (decode_decR16 s p) (decR16_spec s p 8)
  · rw [← BitVec.add_def]
    exact exists_next_of_decode (decode_addHl s p) (addHl_spec s p 8)

/-- Settles O43: both forms add the sign-extended byte (`ofInt_add_toInt`) and take H and C as `setSpFlags` does. -/
theorem spRelative : Obligations.SpRelative := by
  refine ⟨fun e s => ?_, fun e s => ?_⟩ <;> rw [ofInt_add_toInt]
  · exact exists_next_of_decode ⟨.add_SP_e8 e, decode_imm8 rfl e [], rfl⟩ (addSp_spec s e 16)
  · exact exists_next_of_decode ⟨.ld_HL_SPe8 e, decode_imm8 rfl e [], rfl⟩ (ldHlSp_spec s e 12)

end Sys2Proof.Proofs

/-! PROOFS. The 8-bit arithmetic and logic: each operation's value and flags in exact arithmetic, the opcode byte by its
operation and operand, then each form by its operation's effect in Laws/Effects. -/

namespace Sys2Proof.Proofs

open Sys2Proof Sys2Proof.Machine Sys2Proof.Laws

/-! ### A byte and a difference of numbers -/

theorem ofInt_sub_natCast {w : Nat} (x : Int) (n : Nat) :
    BitVec.ofInt w (x - n) = BitVec.ofInt w x - BitVec.ofNat w n := by
  rw [Int.sub_eq_add_neg, BitVec.ofInt_add, BitVec.ofInt_neg, BitVec.ofInt_natCast, BitVec.sub_eq_add_neg]

theorem ofInt_toNat_sub {w : Nat} (v : BitVec w) (n : Nat) : BitVec.ofInt w (v.toNat - n) = v - BitVec.ofNat w n := by
  rw [ofInt_sub_natCast, BitVec.ofInt_natCast, BitVec.ofNat_toNat, BitVec.setWidth_eq]

/-! ### Values and flags in exact arithmetic (42 R251-R263) -/

section Flags

variable (a b v : Byte) (h c : Bool)

theorem addFlags_eq : addFlags a b c =
    { val := BitVec.ofNat 8 (a.toNat + b.toNat + c.toNat)
      z := decide ((a.toNat + b.toNat + c.toNat) % 256 = 0)
      n := false
      h := decide (a.toNat % 16 + b.toNat % 16 + c.toNat > 15)
      c := decide (a.toNat + b.toNat + c.toNat > 255) } := by
  have hz : (BitVec.ofNat 8 (a.toNat + b.toNat + c.toNat) == 0) = decide ((a.toNat + b.toNat + c.toNat) % 256 = 0) :=
    decide_eq_decide.mpr BitVec.toNat_eq
  simp only [addFlags, hz]
  rfl

theorem subFlags_eq : subFlags a b c =
    { val := BitVec.ofInt 8 (a.toNat - b.toNat - c.toNat)
      z := decide (BitVec.ofInt 8 (a.toNat - b.toNat - c.toNat) = 0)
      n := true
      h := decide (a.toNat % 16 < b.toNat % 16 + c.toNat)
      c := decide (a.toNat < b.toNat + c.toNat) } := by
  rw [ofInt_sub_natCast, ofInt_toNat_sub, BitVec.ofNat_toNat, BitVec.setWidth_eq]
  rfl

theorem subFlags_false : subFlags a b false =
    { val := BitVec.ofInt 8 (a.toNat - b.toNat)
      z := decide (a = b)
      n := true
      h := decide (a.toNat % 16 < b.toNat % 16)
      c := decide (a.toNat < b.toNat) } := by
  have hdiff : BitVec.ofInt 8 (a.toNat - b.toNat) = a - b := by
    rw [ofInt_toNat_sub, BitVec.ofNat_toNat, BitVec.setWidth_eq]
  have hz : decide (BitVec.ofInt 8 (a.toNat - b.toNat) = 0) = decide (a = b) := by
    rw [hdiff]
    exact decide_eq_decide.mpr sub_eq_zero
  rw [subFlags_eq]
  simp only [Bool.toNat_false, Int.natCast_zero, Int.sub_zero, Nat.add_zero, hz]

theorem incFlags_eq : incFlags v c =
    { val := BitVec.ofNat 8 (v.toNat + 1)
      z := decide (v.toNat = 255)
      n := false
      h := decide (v.toNat % 16 = 15)
      c := c } := by
  have hval : v + 1 = BitVec.ofNat 8 (v.toNat + 1) := BitVec.add_def v 1
  have hz : (v + 1 == 0) = decide (v.toNat = 255) := decide_eq_decide.mpr (by bv_omega)
  rw [incFlags, hz, hval]
  rfl

theorem decFlags_eq : decFlags v c =
    { val := BitVec.ofInt 8 (v.toNat - 1)
      z := decide (v.toNat = 1)
      n := true
      h := decide (v.toNat % 16 = 0)
      c := c } := by
  have hval : v - 1 = BitVec.ofInt 8 (v.toNat - 1) := (ofInt_toNat_sub v 1).symm
  have hz : (v - 1 == 0) = decide (v.toNat = 1) := decide_eq_decide.mpr (by bv_omega)
  rw [decFlags, hz, hval]
  rfl

/-- The two corrections share no bit, so their OR is their sum. -/
theorem daa_correction (lo hi : Bool) :
    ((if lo then 0x06 else 0x00) ||| (if hi then 0x60 else 0x00) : Byte) =
      BitVec.ofNat 8 (lo.toNat * 6 + hi.toNat * 96) := by
  cases lo <;> cases hi <;> rfl

theorem daaFlags_add (lo hi : Bool) (hlo : lo = (h || decide (a.toNat % 16 > 9)))
    (hhi : hi = (c || decide (a.toNat > 0x99))) :
    let r := BitVec.ofNat 8 (a.toNat + lo.toNat * 6 + hi.toNat * 96)
    daaFlags a false h c = { val := r, z := decide (r = 0), n := false, h := false, c := hi } := by
  have hval : BitVec.ofNat 8 (a.toNat + lo.toNat * 6 + hi.toNat * 96) =
      a + ((if lo then 0x06 else 0x00) ||| (if hi then 0x60 else 0x00)) := by
    rw [daa_correction, Nat.add_assoc, BitVec.ofNat_add, BitVec.ofNat_toNat, BitVec.setWidth_eq]
  rw [hval, hlo, hhi]
  rfl

theorem daaFlags_sub :
    let r := BitVec.ofInt 8 (a.toNat - h.toNat * 6 - c.toNat * 96)
    daaFlags a true h c = { val := r, z := decide (r = 0), n := true, h := false, c := c } := by
  have hval : BitVec.ofInt 8 (a.toNat - h.toNat * 6 - c.toNat * 96) =
      a - ((if h then 0x06 else 0x00) ||| (if c then 0x60 else 0x00)) := by
    rw [daa_correction, ← ofInt_toNat_sub]
    congr 1
    omega
  rw [hval]
  simp only [daaFlags, Bool.not_true, Bool.false_and, Bool.or_false]
  rfl

theorem complement_eq_ofNat : ~~~v = BitVec.ofNat 8 (255 - v.toNat) := by
  bv_omega

end Flags

/-! ### The opcode byte selects the operation and the operand by their indices (30 R143) -/

section Decoding

variable (s : State)

theorem decode_aluReg (op : AluOp) (src : R8) :
    ∃ i, decode [byte (0x80 + 8 * op.index + src.index)] = .ok (i, []) ∧
      exec i s = aluReg op src (if src = .mHL then 8 else 4) s := by
  cases op <;> cases src <;> exact ⟨_, decode_op rfl [], rfl⟩

theorem decode_aluImm (op : AluOp) (n : Byte) :
    ∃ i, decode [byte (0xC6 + 8 * op.index), n] = .ok (i, []) ∧ exec i s = aluImm op n 8 s := by
  cases op <;> exact ⟨_, decode_imm8 rfl n [], rfl⟩

theorem decode_incR8 (r : R8) :
    ∃ i, decode [byte (0x04 + 8 * r.index)] = .ok (i, []) ∧ exec i s = incR8 r (if r = .mHL then 12 else 4) s := by
  cases r <;> exact ⟨_, decode_op rfl [], rfl⟩

theorem decode_decR8 (r : R8) :
    ∃ i, decode [byte (0x05 + 8 * r.index)] = .ok (i, []) ∧ exec i s = decR8 r (if r = .mHL then 12 else 4) s := by
  cases r <;> exact ⟨_, decode_op rfl [], rfl⟩

end Decoding

/-- What `aluStep` does with an operand byte and a cost, the operation does in all its forms. -/
theorem aluForms_of_aluStep {op : AluOp} {P : State → Byte → State → Prop}
    (h : ∀ s b k, P s b ((s.aluStep op b).tick k)) : AluForms op.index P := by
  refine ⟨fun src s => ?_, fun n s => ?_⟩
  · obtain ⟨-, -, hcycles⟩ := aluStep_spec s op (s.r8 src) (if src = .mHL then 8 else 4)
    exact exists_next_of_decode (decode_aluReg s op src) ⟨_, rfl, h s _ _, hcycles⟩
  · obtain ⟨-, -, hcycles⟩ := aluStep_spec s op n 8
    exact exists_next_of_decode (decode_aluImm s op n) ⟨_, rfl, h s n 8, hcycles⟩

/-- Settles O44: both operations are `addFlags`, ADD without a carry-in. -/
theorem addAdc : Obligations.AddAdc := by
  refine ⟨aluForms_of_aluStep (op := .add) fun s b k => ?_, aluForms_of_aluStep (op := .adc) fun s b k => ?_⟩
  · obtain ⟨hwrites, hflags, -⟩ := aluStep_spec s .add b k
    rw [AluOp.compute, addFlags_eq] at hwrites hflags
    exact ⟨hwrites, hflags⟩
  · obtain ⟨hwrites, hflags, -⟩ := aluStep_spec s .adc b k
    rw [AluOp.compute, addFlags_eq] at hwrites hflags
    exact ⟨hwrites, hflags⟩

/-- Settles O45: the three operations are `subFlags`, SUB and CP without a borrow-in. -/
theorem subSbcCp : Obligations.SubSbcCp := by
  refine ⟨aluForms_of_aluStep (op := .sub) fun s b k => ?_, aluForms_of_aluStep (op := .sbc) fun s b k => ?_,
    aluForms_of_aluStep (op := .cp) fun s b k => ?_⟩
  · obtain ⟨hwrites, hflags, -⟩ := aluStep_spec s .sub b k
    rw [AluOp.compute, subFlags_false] at hwrites hflags
    exact ⟨hwrites, hflags⟩
  · obtain ⟨hwrites, hflags, -⟩ := aluStep_spec s .sbc b k
    rw [AluOp.compute, subFlags_eq] at hwrites hflags
    exact ⟨hwrites, hflags⟩
  · obtain ⟨hwrites, hflags, -⟩ := aluStep_spec s .cp b k
    rw [AluOp.compute, subFlags_false] at hflags
    exact ⟨hwrites, hflags⟩

/-- Settles O46: the result of each operation is the operation on bytes, read bit by bit. -/
theorem logic : Obligations.Logic := by
  refine ⟨aluForms_of_aluStep (op := .and) fun s b k => ?_, aluForms_of_aluStep (op := .xor) fun s b k => ?_,
    aluForms_of_aluStep (op := .or) fun s b k => ?_⟩
  · obtain ⟨hwrites, hflags, -⟩ := aluStep_spec s .and b k
    exact ⟨s.a &&& b, hwrites, fun _ _ => BitVec.getLsbD_and, hflags⟩
  · obtain ⟨hwrites, hflags, -⟩ := aluStep_spec s .xor b k
    exact ⟨s.a ^^^ b, hwrites, fun _ _ => BitVec.getLsbD_xor, hflags⟩
  · obtain ⟨hwrites, hflags, -⟩ := aluStep_spec s .or b k
    exact ⟨s.a ||| b, hwrites, fun _ _ => BitVec.getLsbD_or, hflags⟩

/-- Settles O47: `incFlags` and `decFlags` keep the C they are given. -/
theorem incDec8 : Obligations.IncDec8 := by
  refine ⟨fun r s => exists_next_of_decode (decode_incR8 s r) ?_, fun r s => exists_next_of_decode (decode_decR8 s r) ?_⟩
  · have hspec := incR8_spec s r (if r = .mHL then 12 else 4)
    rw [incFlags_eq] at hspec
    exact hspec
  · have hspec := decR8_spec s r (if r = .mHL then 12 else 4)
    rw [decFlags_eq] at hspec
    exact hspec

theorem a_of_writesR8 {s t : State} {v : Byte} (h : WritesR8 s t .a v) : t.a = v := by
  obtain ⟨-, hreg, -⟩ := h
  exact (hreg (by decide)).1

/-- Settles O48: DAA by N, and the other three by their effects. -/
theorem daaCplScfCcf : Obligations.DaaCplScfCcf := by
  refine ⟨fun s => ?_, fun s => ?_, fun s => ?_, fun s => ?_⟩
  · obtain ⟨t, hnext, hwrites, hflags, hcycles⟩ := daaOp_spec s 4
    refine ⟨.daa, t, decode_op rfl [], hnext, fun hn => ⟨_, _, rfl, rfl, ?_⟩, fun hn => ?_, hcycles⟩
    · rw [hn, daaFlags_add _ _ _ _ _ rfl rfl] at hwrites hflags
      rw [a_of_writesR8 hwrites]
      exact ⟨hwrites, hflags⟩
    · rw [hn, daaFlags_sub] at hwrites hflags
      rw [a_of_writesR8 hwrites]
      exact ⟨hwrites, hflags⟩
  · rw [← complement_eq_ofNat]
    exact exists_next_of_decode ⟨.cpl, decode_op rfl [], rfl⟩ (cplOp_spec s 4)
  · exact exists_next_of_decode ⟨.scf, decode_op rfl [], rfl⟩ (scfOp_spec s 4)
  · exact exists_next_of_decode ⟨.ccf, decode_op rfl [], rfl⟩ (ccfOp_spec s 4)

end Sys2Proof.Proofs

/-! PROOFS. The rotates, shifts and single bits: each result in arithmetic, the opcode byte by its operation or bit and its
operand, then each form by its operation's effect in Laws/Effects. -/

namespace Sys2Proof.Proofs

open Sys2Proof Sys2Proof.Machine Sys2Proof.Laws

/-! ### Bits, shifts and filled shifts as numbers -/

section Bits

variable (v : Byte) (c : Bool)

theorem toNat_getLsbD (k : Nat) : (v.getLsbD k).toNat = v.toNat / 2 ^ k % 2 := Nat.toNat_testBit ..

theorem toNat_getLsbD_zero : (v.getLsbD 0).toNat = v.toNat % 2 := by
  rw [toNat_getLsbD, Nat.pow_zero, Nat.div_one]

theorem toNat_getLsbD_seven : (v.getLsbD 7).toNat = v.toNat / 128 := by
  rw [toNat_getLsbD]
  have := v.isLt
  omega

theorem decide_toNat_eq_one : decide (c.toNat = 1) = c := by cases c <;> rfl

theorem decide_toNat_eq_zero : decide (c.toNat = 0) = !c := by cases c <;> rfl

/-- The multiples of `2 ^ k` and the numbers below it share no bit, so their OR is their sum. -/
theorem or_eq_byte {x y : Byte} {m n k : Nat} (hx : x.toNat = m * 2 ^ k) (hy : y.toNat = n) (hn : n < 2 ^ k) :
    x ||| y = byte (m * 2 ^ k + n) := by
  have h : (x ||| y).toNat = m * 2 ^ k + n := by
    rw [BitVec.toNat_or, hx, hy, Nat.mul_comm, Nat.two_pow_add_eq_or_of_lt hn]
  rw [← h, byte, BitVec.ofNat_toNat, BitVec.setWidth_eq]

theorem shiftLeft_fill : v <<< 1 ||| BitVec.ofNat 8 c.toNat = byte (2 * v.toNat % 256 + c.toNat) := by
  have hhigh : (v <<< 1).toNat = v.toNat % 128 * 2 ^ 1 := by
    rw [BitVec.toNat_shiftLeft, Nat.shiftLeft_eq]
    omega
  have hlow : (BitVec.ofNat 8 c.toNat).toNat = c.toNat := by cases c <;> rfl
  have hdrop : 2 * v.toNat % 256 = v.toNat % 128 * 2 ^ 1 := by omega
  rw [hdrop]
  exact or_eq_byte hhigh hlow c.toNat_lt

theorem shiftRight_fill : v >>> 1 ||| BitVec.ofNat 8 (c.toNat * 128) = byte (v.toNat / 2 + c.toNat * 128) := by
  have hhigh : (BitVec.ofNat 8 (c.toNat * 128)).toNat = c.toNat * 2 ^ 7 := by cases c <;> rfl
  have hlow : (v >>> 1).toNat = v.toNat / 2 := by
    rw [BitVec.toNat_ushiftRight, Nat.shiftRight_eq_div_pow]
  rw [BitVec.or_comm, Nat.add_comm]
  exact or_eq_byte hhigh hlow (Nat.div_lt_of_lt_mul v.isLt)

theorem swap_nibbles : (v &&& 0x0F) <<< 4 ||| v >>> 4 = byte (v.toNat % 16 * 16 + v.toNat / 16) := by
  have hmask : (v &&& 0x0F).toNat = v.toNat % 16 := Nat.and_two_pow_sub_one_eq_mod v.toNat 4
  have hhigh : ((v &&& 0x0F) <<< 4).toNat = v.toNat % 16 * 2 ^ 4 := by
    rw [BitVec.toNat_shiftLeft, Nat.shiftLeft_eq, hmask]
    omega
  have hlow : (v >>> 4).toNat = v.toNat / 16 := by
    rw [BitVec.toNat_ushiftRight, Nat.shiftRight_eq_div_pow]
  exact or_eq_byte hhigh hlow (Nat.div_lt_of_lt_mul v.isLt)

theorem and_bit_seven : ∀ v : Byte, v &&& 0x80 = BitVec.ofNat 8 ((v.getLsbD 7).toNat * 128) := by decide

theorem getLsbD_and_not_one_shiftLeft {j : Nat} (hj : j < 8) (k : Nat) :
    (v &&& ~~~((1 : Byte) <<< k)).getLsbD j = (decide (j ≠ k) && v.getLsbD j) := by
  have hone : ((1 : Byte) <<< k).getLsbD j = decide (j = k) := by simpa using getLsbD_or_one_shiftLeft 0 hj k
  rw [BitVec.getLsbD_and, BitVec.getLsbD_not, hone, Bool.and_comm, decide_eq_true hj, Bool.true_and, decide_not]

end Bits

/-! ### The rotates' values and flags in plain arithmetic (44 R295-R302) -/

section Rotations

variable (op : RotOp) (v : Byte) (c : Bool)

theorem rotArith_lt : (rotArith op v.toNat c.toNat).1 < 256 := by
  have hv := v.isLt
  have hc := c.toNat_lt
  cases op <;> (simp only [rotArith]; omega)

theorem compute_eq_rotFlags :
    op.compute v c = rotFlags (byte (rotArith op v.toNat c.toNat).1) (rotArith op v.toNat c.toNat).2 := by
  have hshl : v <<< 1 = byte (2 * v.toNat % 256) := by simpa using shiftLeft_fill v false
  have hshr : v >>> 1 = byte (v.toNat / 2) := by simpa using shiftRight_fill v false
  -- `rotArith` has the bit shifted out as a quotient or a remainder: put the bit itself there.
  cases op <;>
    simp only [RotOp.compute, rotArith, ← toNat_getLsbD_seven, ← toNat_getLsbD_zero, decide_toNat_eq_one]
  case rlc | rl => rw [shiftLeft_fill]
  case rrc | rr => rw [shiftRight_fill]
  case sla => rw [hshl]
  case sra => rw [and_bit_seven, shiftRight_fill]
  case swap => rw [swap_nibbles]
  case srl => rw [hshr]

theorem rotCompute_eq : op.compute v c =
    { val := byte (rotArith op v.toNat c.toNat).1
      z := decide ((rotArith op v.toNat c.toNat).1 = 0)
      n := false
      h := false
      c := (rotArith op v.toNat c.toNat).2 } := by
  have hz : (byte (rotArith op v.toNat c.toNat).1 == 0) = decide ((rotArith op v.toNat c.toNat).1 = 0) := by
    refine decide_eq_decide.mpr (BitVec.toNat_eq.trans ?_)
    rw [byte, BitVec.toNat_ofNat, Nat.mod_eq_of_lt (rotArith_lt op v c)]
    rfl
  rw [compute_eq_rotFlags, rotFlags, hz]

end Rotations

/-! ### The CB byte selects the operation, or the bit, and the operand by their indices (30 R143) -/

section Decoding

variable (s : State)

theorem decode_rotR8 (op : RotOp) (r : R8) :
    ∃ i, decode [0xCB, byte (8 * op.index + r.index)] = .ok (i, []) ∧
      exec i s = rotR8 op r (if r = .mHL then 16 else 8) s := by
  cases op <;> cases r <;> exact ⟨_, decode_cb _ [], rfl⟩

theorem decode_rotA {op : RotOp} (h : op ∈ [.rlc, .rrc, .rl, .rr]) :
    ∃ i, decode [byte (8 * op.index + 7)] = .ok (i, []) ∧ exec i s = rotA op 4 s := by
  simp only [List.mem_cons, List.not_mem_nil, or_false] at h
  obtain rfl | rfl | rfl | rfl := h <;> exact ⟨_, decode_op rfl [], rfl⟩

variable {b : Nat} (hb : b < 8) (r : R8)

include hb

theorem decode_bitTest :
    ∃ i, decode [0xCB, byte (0x40 + 8 * b + r.index)] = .ok (i, []) ∧
      exec i s = bitTest b r (if r = .mHL then 12 else 8) s := by
  interval_cases b <;> cases r <;> exact ⟨_, decode_cb _ [], rfl⟩

theorem decode_bitReset :
    ∃ i, decode [0xCB, byte (0x80 + 8 * b + r.index)] = .ok (i, []) ∧
      exec i s = bitReset b r (if r = .mHL then 16 else 8) s := by
  interval_cases b <;> cases r <;> exact ⟨_, decode_cb _ [], rfl⟩

theorem decode_bitSet :
    ∃ i, decode [0xCB, byte (0xC0 + 8 * b + r.index)] = .ok (i, []) ∧
      exec i s = bitSet b r (if r = .mHL then 16 else 8) s := by
  interval_cases b <;> cases r <;> exact ⟨_, decode_cb _ [], rfl⟩

end Decoding

/-- Settles O49: both families are `RotOp.compute`, which is `rotArith` with its flags; the accumulator forms drop Z. -/
theorem rotates : Obligations.Rotates := by
  refine ⟨fun op r s => exists_next_of_decode (decode_rotR8 s op r) ?_,
    fun op s hop => exists_next_of_decode (decode_rotA s hop) ?_⟩
  · have hspec := rotR8_spec s op r (if r = .mHL then 16 else 8)
    rw [rotCompute_eq] at hspec
    exact hspec
  · have hspec := rotA_spec s op 4
    rw [rotCompute_eq] at hspec
    exact hspec

/-- Settles O50: Z is the complement of the bit tested, whose number is `v / 2 ^ b % 2`. -/
theorem bitTest : Obligations.BitTest := by
  intro b r s hb
  rw [← toNat_getLsbD, decide_toNat_eq_zero]
  exact exists_next_of_decode (decode_bitTest s hb r) (bitTest_spec s b r _)

/-- Settles O51: the byte written is the operand masked with, or joined with, the bit's own byte. -/
theorem resSet : Obligations.ResSet := by
  refine ⟨fun b r s hb => ?_, fun b r s hb => ?_⟩
  · obtain ⟨i, t, hdecode, hnext, hwrites, hkept⟩ :=
      exists_next_of_decode (decode_bitReset s hb r) (bitReset_spec s b r _)
    exact ⟨i, t, _, hdecode, hnext, hwrites, fun _ hk => getLsbD_and_not_one_shiftLeft _ hk b, hkept⟩
  · obtain ⟨i, t, hdecode, hnext, hwrites, hkept⟩ :=
      exists_next_of_decode (decode_bitSet s hb r) (bitSet_spec s b r _)
    exact ⟨i, t, _, hdecode, hnext, hwrites, fun _ hk => getLsbD_or_one_shiftLeft _ hk b, hkept⟩

end Sys2Proof.Proofs

/-! PROOFS. Jumps, calls, returns and restarts: the opcode byte of each conditional form and of RST by its index, then each
operation as its next state. -/

namespace Sys2Proof.Proofs

open Sys2Proof Sys2Proof.Machine Sys2Proof.Laws

/-! ### The opcode byte selects the condition, or the vector, by its index (30 R143; 45 R310, R321) -/

section Decoding

variable (s : State) (cc : Cond)

theorem decode_jpIf (lo hi : Byte) :
    ∃ i, decode [byte (0xC2 + 8 * cc.index), lo, hi] = .ok (i, []) ∧ exec i s = jumpIf cc (joinBytes hi lo) 16 12 s := by
  cases cc <;> exact ⟨_, decode_imm16 rfl lo hi [], rfl⟩

theorem decode_jrIf (e : Byte) :
    ∃ i, decode [byte (0x20 + 8 * cc.index), e] = .ok (i, []) ∧ exec i s = jumpIf cc (relTarget s.pc e) 12 8 s := by
  cases cc <;> exact ⟨_, decode_imm8 rfl e [], rfl⟩

theorem decode_callIf (lo hi : Byte) :
    ∃ i, decode [byte (0xC4 + 8 * cc.index), lo, hi] = .ok (i, []) ∧ exec i s = callIf cc (joinBytes hi lo) 24 12 s := by
  cases cc <;> exact ⟨_, decode_imm16 rfl lo hi [], rfl⟩

theorem decode_retIf :
    ∃ i, decode [byte (0xC0 + 8 * cc.index)] = .ok (i, []) ∧ exec i s = retIf cc 20 8 s := by
  cases cc <;> exact ⟨_, decode_op rfl [], rfl⟩

theorem decode_rst {y : Nat} (hy : y < 8) :
    ∃ i, decode [byte (0xC7 + 8 * y)] = .ok (i, []) ∧ exec i s = call (BitVec.ofNat 16 (y * 8)) 16 s := by
  interval_cases y <;> exact ⟨_, decode_op rfl [], rfl⟩

end Decoding

/-! ### The operations, as the next state -/

/-- What a decoded operation answers, the decoded instruction answers. -/
theorem exists_exec_of_decode {bs : List Byte} {s : State} {r r' : Result}
    (hdecode : ∃ i, decode bs = .ok (i, []) ∧ exec i s = r) (hop : r = r') :
    ∃ i, decode bs = .ok (i, []) ∧ exec i s = r' :=
  hop ▸ hdecode

section Operations

variable (s : State) (cc : Cond) (target : Word) (taken base k : Nat)

theorem jump_eq : jump target k s = .next { s with pc := target, cycles := s.cycles + k } := rfl

theorem jumpIf_eq :
    jumpIf cc target taken base s =
      .next (if s.holds cc then { s with pc := target, cycles := s.cycles + taken }
        else { s with cycles := s.cycles + base }) :=
  (apply_ite Host.Outcome.next _ _ _).symm

/-- The push leaves the clock, so the cost counts from the clock before it. -/
theorem pushed_jump_tick :
    ((s.push16 s.pc).setPc target).tick k = { Pushed s s.pc with pc := target, cycles := s.cycles + k } := by
  rw [State.tick, setPc_cycles, push16_cycles, push16_pushed, State.setPc]

theorem call_eq : call target k s = .next { Pushed s s.pc with pc := target, cycles := s.cycles + k } :=
  congrArg _ (pushed_jump_tick s target k)

theorem callIf_eq :
    callIf cc target taken base s =
      .next (if s.holds cc then { Pushed s s.pc with pc := target, cycles := s.cycles + taken }
        else { s with cycles := s.cycles + base }) := by
  rw [callIf, pushed_jump_tick, ← apply_ite Host.Outcome.next, State.tick]

theorem retOp_eq : retOp k s = .next { s with pc := s.top16, sp := s.sp + 2, cycles := s.cycles + k } := rfl

theorem retiOp_eq :
    retiOp k s = .next { s with pc := s.top16, sp := s.sp + 2, ime := true, cycles := s.cycles + k } := rfl

theorem retIf_eq :
    retIf cc taken base s =
      .next (if s.holds cc then { s with pc := s.top16, sp := s.sp + 2, cycles := s.cycles + taken }
        else { s with cycles := s.cycles + base }) :=
  (apply_ite Host.Outcome.next _ _ _).symm

end Operations

/-- Settles O52, form by form; a relative target, `relTarget`, is the sum in exact arithmetic (`ofInt_add_toInt`). -/
theorem jumps : Obligations.Jumps := by
  refine ⟨fun s => ⟨rfl, rfl, rfl, rfl⟩,
    fun lo hi s => ⟨.jp_a16 _, decode_imm16 rfl lo hi [], jump_eq s _ 16⟩,
    fun s => ⟨.jp_HL, decode_op rfl [], jump_eq s s.hl 4⟩, fun e s => ?_,
    fun cc lo hi s => exists_exec_of_decode (decode_jpIf s cc lo hi) (jumpIf_eq s cc _ 16 12), fun cc e s => ?_⟩
  · rw [ofInt_add_toInt]
    exact ⟨.jr_e8 e, decode_imm8 rfl e [], jump_eq s _ 12⟩
  · rw [ofInt_add_toInt]
    exact exists_exec_of_decode (decode_jrIf s cc e) (jumpIf_eq s cc _ 12 8)

/-- Settles O53: every form is `call` or `callIf`, whose push is `Pushed` of the PC past the instruction. -/
theorem calls : Obligations.Calls :=
  ⟨fun lo hi s => ⟨.call_a16 _, decode_imm16 rfl lo hi [], call_eq s _ 24⟩,
    fun cc lo hi s => exists_exec_of_decode (decode_callIf s cc lo hi) (callIf_eq s cc _ 24 12),
    fun _ s hy => exists_exec_of_decode (decode_rst s hy) (call_eq s _ 16)⟩

/-- Settles O54: every form pops the same word, `top16`. -/
theorem returns : Obligations.Returns := fun s =>
  ⟨s.top16, rfl, ⟨.ret, decode_op rfl [], retOp_eq s 16⟩, ⟨.reti, decode_op rfl [], retiOp_eq s 16⟩,
    fun cc => exists_exec_of_decode (decode_retIf s cc) (retIf_eq s cc 20 8)⟩

end Sys2Proof.Proofs

/-! PROOFS. HALT, STOP and the unused opcodes: the engine's two conditions as the statements put them, the operation an unused
byte selects, then each operation as its next state. -/

namespace Sys2Proof.Proofs

open Sys2Proof Sys2Proof.Machine Sys2Proof.Laws

/-! ### The opcode byte selects the operation (46 R335) -/

theorem byte_toNat (o : Byte) : byte o.toNat = o := (BitVec.ofNat_toNat 8 o).trans (BitVec.setWidth_eq o)

/-- Each of the eleven unused opcodes decodes to a constructor of its own, and all eleven have one operation. -/
theorem decode_unused {o : Byte} (s : State)
    (ho : o.toNat ∈ [0xD3, 0xDB, 0xDD, 0xE3, 0xE4, 0xEB, 0xEC, 0xED, 0xF4, 0xFC, 0xFD]) :
    ∃ i, decode [o] = .ok (i, []) ∧ exec i s = unusedOp 4 s := by
  rw [← byte_toNat o]
  generalize o.toNat = n at ho ⊢
  fin_cases ho <;> exact ⟨_, decode_op rfl [], rfl⟩

/-! ### The operations, as the next state -/

section Operations

variable (s : State) (k : Nat)

theorem haltBug_iff : (!s.ime && s.pending != 0) = true ↔ s.ime = false ∧ s.ie &&& s.ifReg &&& 0x1F ≠ 0 := by
  simp only [Bool.and_eq_true, Bool.not_eq_true', bne_iff_ne, State.pending]

theorem haltOp_eq :
    haltOp k s = .next (if s.ime = false ∧ s.ie &&& s.ifReg &&& 0x1F ≠ 0 then
        { s with haltBug := true, cycles := s.cycles + k }
      else { s with halted := true, cycles := s.cycles + k }) := by
  simp only [haltOp, haltBug_iff, State.tick, apply_ite Host.Outcome.next]

theorem stopOp_eq :
    stopOp k s = .next (if s.key1Armed then
        { s with doubleSpeed := !s.doubleSpeed, key1Armed := false, cycles := s.cycles + k }
      else { s with stopped := true, cycles := s.cycles + k }) :=
  (apply_ite Host.Outcome.next _ _ _).symm

variable {s}

theorem unusedOp_nop (h : s.params.unusedOpcode = .nop) : unusedOp k s = .next { s with cycles := s.cycles + k } := by
  rw [unusedOp, h, State.tick]

theorem unusedOp_lockup (h : s.params.unusedOpcode = .lockup) : unusedOp k s = .fault .lockup := by
  rw [unusedOp, h]

end Operations

/-- Settles O55: NOP, DI and EI by their operations' definitions; an unused opcode by `unusedOp` under each parameter value. -/
theorem nopDiEiUnused : Obligations.NopDiEiUnused := by
  refine ⟨fun s => rfl, fun s => rfl, fun s => rfl, fun o s ho => ?_⟩
  obtain ⟨i, hdecode, hexec⟩ := decode_unused s ho
  exact ⟨i, hdecode, fun h => hexec.trans (unusedOp_nop 4 h), fun h => hexec.trans (unusedOp_lockup 4 h)⟩

/-- Settles O56: HALT's condition is `haltBug_iff`'s, and STOP's second byte is not looked at. -/
theorem haltStop : Obligations.HaltStop :=
  ⟨fun s => haltOp_eq s 4, fun _ s => stopOp_eq s 4⟩

end Sys2Proof.Proofs

/-! PROOFS. Taking an interrupt: the source the pending set selects, the interrupt check by its two cases, and what a dispatch
leaves in the ports. InterruptCheck, Dispatch, StallSteps. -/

namespace Sys2Proof.Proofs

open Sys2Proof Sys2Proof.Machine Sys2Proof.Laws

/-! ### The pending set (60 R405, R407) -/

/-- The five sources are the bits the mask keeps. -/
theorem getLsbD_sourceMask : ∀ j < 5, (0x1F : Byte).getLsbD j = true := by decide

theorem pending_getLsbD (s : State) {j : Nat} (hj : j < 5) :
    s.pending.getLsbD j = (s.ie.getLsbD j && s.ifReg.getLsbD j) := by
  rw [State.pending, BitVec.getLsbD_and, BitVec.getLsbD_and, getLsbD_sourceMask j hj, Bool.and_true]

/-- A set bit with none set below it is the one priority selects. -/
theorem lowestSource_eq {m : Byte} {k : Nat} (hk : k < 5) (hset : m.getLsbD k = true)
    (hlow : ∀ j < k, m.getLsbD j = false) : lowestSource m = k := by
  unfold lowestSource
  interval_cases k <;> simp only [hset, hlow 0, hlow 1, hlow 2, hlow 3, Nat.reduceLT, if_true, Bool.false_eq_true, if_false]

theorem pending_ne_zero_of_getLsbD {s : State} {k : Nat} (h : s.pending.getLsbD k = true) : s.pending ≠ 0 := by
  intro hzero
  simp [hzero] at h

/-! ### Dispatch (60 R408) -/

section Dispatch

variable (s : State) (k : Nat)

theorem dispatchPushed_pushed :
    dispatchPushed s = Pushed { s with haltBug := false } (if s.haltBug then s.pc - 1 else s.pc) := push16_pushed _ _

@[simp] theorem dispatchPushed_af : (dispatchPushed s).af = s.af := push16_af _ _
@[simp] theorem dispatchPushed_bc : (dispatchPushed s).bc = s.bc := push16_bc _ _
@[simp] theorem dispatchPushed_de : (dispatchPushed s).de = s.de := push16_de _ _
@[simp] theorem dispatchPushed_hl : (dispatchPushed s).hl = s.hl := push16_hl _ _
@[simp] theorem dispatchPushed_sp : (dispatchPushed s).sp = s.sp - 2 := push16_sp _ _
@[simp] theorem dispatchPushed_eiPending : (dispatchPushed s).eiPending = s.eiPending := push16_eiPending _ _
@[simp] theorem dispatchPushed_halted : (dispatchPushed s).halted = s.halted := push16_halted _ _
@[simp] theorem dispatchPushed_haltBug : (dispatchPushed s).haltBug = false := push16_haltBug _ _
@[simp] theorem dispatchPushed_cycles : (dispatchPushed s).cycles = s.cycles := push16_cycles _ _

theorem dispatch_cycles : (s.dispatch k).cycles = s.cycles := dispatchPushed_cycles s

/-- A dispatch writes no port but IF. -/
theorem dispatch_port_ne {p : BitVec 7} (hp : p ≠ 0x0F) : (s.dispatch k).port p = (dispatchPushed s).port p :=
  port_setPort_ne (dispatchPushed s) hp _

theorem dispatch_ifReg : (s.dispatch k).ifReg = (dispatchPushed s).ifReg &&& ~~~((1 : Byte) <<< k) :=
  port_setPort_same (dispatchPushed s) 0x0F _

/-- Of IF's bits as the push left them, the serviced one is cleared. -/
theorem dispatch_ifReg_getLsbD {j : Nat} (hj : j < 8) :
    (s.dispatch k).ifReg.getLsbD j = (decide (j ≠ k) && (dispatchPushed s).ifReg.getLsbD j) := by
  rw [dispatch_ifReg, getLsbD_and_not_one_shiftLeft _ hj]

end Dispatch

/-- Settles O10: `dispatch_eq` is the record, and the push is `dispatchPushed`. -/
theorem dispatch : Obligations.Dispatch := fun s k _ =>
  ⟨_, _, rfl, dispatchPushed_pushed s, dispatch_eq s k, fun _ hp => dispatch_port_ne s k hp,
    fun _ hj => dispatch_ifReg_getLsbD s k hj, dispatchPushed_sp s, dispatchPushed_af s, dispatchPushed_bc s,
    dispatchPushed_de s, dispatchPushed_hl s, dispatchPushed_haltBug s, dispatch_cycles s k⟩

/-! ### The interrupt check (60 R406) -/

theorem interruptCheck_idle {s : State} (h : s.ime = false ∨ s.pending = 0) : s.interruptCheck = s := by
  have hcond : (s.ime && s.pending != 0) = false := by rwa [Bool.and_eq_false_iff, bne_eq_false_iff_eq]
  rw [State.interruptCheck, if_neg (Bool.eq_false_iff.mp hcond)]

theorem interruptCheck_taken {s : State} (hime : s.ime = true) (hpending : s.pending ≠ 0) :
    s.interruptCheck = (s.dispatch (lowestSource s.pending)).tick 20 := by
  rw [State.interruptCheck, if_pos (by simpa [hime] using hpending)]

/-- Settles O9: a set bit of IE and IF with none below it is the lowest of the pending set. -/
theorem interruptCheck : Obligations.InterruptCheck := by
  refine ⟨fun s h => interruptCheck_idle h, fun s k hk hime hie hif hlow => ?_⟩
  have hset : s.pending.getLsbD k = true := by rw [pending_getLsbD s hk, hie, hif]; rfl
  have hclear : ∀ j < k, s.pending.getLsbD j = false := fun j hj => by
    rw [pending_getLsbD s (hj.trans hk), Bool.and_eq_false_iff]
    exact hlow j hj
  rw [interruptCheck_taken hime (pending_ne_zero_of_getLsbD hset), lowestSource_eq hk hset hclear, State.tick,
    dispatch_cycles]

/-! ### Stalled steps (30 R147) -/

theorem step_halted {s : State} (hstopped : s.stopped = false) (hhalted : s.halted = true) :
    step s = .next (s.haltWakeCheck.tick 4).interruptCheck := by
  rw [step, hstopped, hhalted]; rfl

theorem step_stopped {s : State} (h : s.stopped = true) : step s = .next (s.stopWakeCheck.tick 4) := by
  rw [step, h]; rfl

theorem haltWakeCheck_idle {s : State} (h : s.pending = 0) : s.haltWakeCheck = s := by
  simp [State.haltWakeCheck, h]

theorem haltWakeCheck_wakes {s : State} (h : s.pending ≠ 0) : s.haltWakeCheck = { s with halted := false } :=
  if_pos (bne_iff_ne.mpr h)

/-- A joypad line is low when the lines are not all 1 (60 R424). -/
theorem stopWakeCheck_eq {s : State} (h : s.stopped = true) :
    s.stopWakeCheck = { s with stopped := decide (s.joypIn = 0xFF) } := by
  unfold State.stopWakeCheck
  by_cases hlines : s.joypIn = 0xFF
  · rw [if_neg (by simpa using hlines), decide_eq_true hlines, ← h]
  · rw [if_pos (bne_iff_ne.mpr hlines), decide_eq_false hlines]

/-- Settles O8: the wake check, then the interrupt check, by what is pending and by IME; the wake check leaves both. -/
theorem stallSteps : Obligations.StallSteps := by
  refine ⟨fun s hstopped hhalted hnone => ?_, fun s hstopped hhalted hsome hime => ?_,
    fun s hstopped hhalted hsome hime => ?_, fun s hstopped => ?_⟩
  · rw [step_halted hstopped hhalted, haltWakeCheck_idle hnone]
    exact congrArg _ (interruptCheck_idle (s := s.tick 4) (.inr hnone))
  · rw [step_halted hstopped hhalted, haltWakeCheck_wakes hsome]
    exact congrArg _ (interruptCheck_idle (s := ({ s with halted := false } : State).tick 4) (.inl hime))
  · rw [step_halted hstopped hhalted, haltWakeCheck_wakes hsome]
    exact congrArg _ (interruptCheck_taken (s := ({ s with halted := false } : State).tick 4) hime hsome)
  · rw [step_stopped hstopped, stopWakeCheck_eq hstopped, State.tick]

end Sys2Proof.Proofs

/-! PROOFS. EiDelay: a RUN step of a decoded instruction, then of a one-byte instruction; each clause is one of them with the
interrupt check idle or taken. -/

namespace Sys2Proof.Proofs

open Sys2Proof Sys2Proof.Machine Sys2Proof.Laws

theorem running_iff {s : State} : s.running = true ↔ s.halted = false ∧ s.stopped = false := by
  simp only [State.running, Bool.and_eq_true, Bool.not_eq_true']

theorem isEi_eq (i : Instr) : i.isEi = decide (i = .ei) := by
  rw [Bool.eq_iff_iff, decide_eq_true_iff]
  exact isEi_iff

theorem isDi_eq (i : Instr) : i.isDi = decide (i = .di) := by
  unfold Instr.isDi
  split <;> simp_all

/-- The EI delay, in the words of the statement (60 R410). -/
theorem settleEi_eq (u : State) (pend : Bool) (i : Instr) :
    u.settleEi pend i =
      { u with ime := u.ime || (pend && decide (i ≠ .di)), eiPending := decide (i = .ei) } := by
  rw [State.settleEi, isEi_eq, isDi_eq, decide_not]

theorem settleEi_of_ne_di (u : State) (pend : Bool) {i : Instr} (h : i ≠ .di) :
    u.settleEi pend i = { u with ime := u.ime || pend, eiPending := decide (i = .ei) } := by
  rw [settleEi_eq, decide_eq_true h, Bool.and_true]

/-- DI cancels a pending EI (46 R333). -/
theorem settleEi_di (u : State) (pend : Bool) : u.settleEi pend .di = { u with eiPending := false } := by
  simp [settleEi_eq]

/-- A RUN step whose instruction has a next state ends with the EI delay and the interrupt check (30 R147). -/
theorem step_decoded {s u : State} {i : Instr} {rest : List Byte} (hrun : s.running = true) (hbug : s.haltBug = false)
    (hdecode : decode [s.busRead s.pc, s.busRead (s.pc + 1), s.busRead (s.pc + 2)] = .ok (i, rest))
    (hexec : exec i { s with pc := s.pc + BitVec.ofNat 16 i.length, haltBug := false } = .next u) :
    step s = .next (u.settleEi s.eiPending i).interruptCheck := by
  rw [stepRunsDecoded.1 s i rest hrun hbug hdecode, hexec]
  rfl

theorem clearHaltBug_eq {s : State} (hbug : s.haltBug = false) : { s with haltBug := false } = s := by
  rw [← hbug]

/-- A RUN step of a one-byte instruction that has a next state. -/
theorem step_op {s u : State} {i : Instr} (hrun : s.running = true) (hbug : s.haltBug = false)
    (hentry : baseEntry (s.busRead s.pc) = .op i) (hexec : exec i { s with pc := s.pc + 1 } = .next u) :
    step s = .next (u.settleEi s.eiPending i).interruptCheck := by
  have hdecode := decode_op hentry [s.busRead (s.pc + 1), s.busRead (s.pc + 2)]
  have hlength : i.length = 1 := by rw [(encode_of_decode hdecode).2, hentry, entrySize]
  have hstart : { s with pc := s.pc + BitVec.ofNat 16 i.length, haltBug := false } = { s with pc := s.pc + 1 } := by
    rw [hlength]
    exact congrArg (·.setPc (s.pc + 1)) (clearHaltBug_eq hbug)
  exact step_decoded hrun hbug hdecode (hstart ▸ hexec)

section OneByte

variable {s : State}

theorem step_ei (hrun : s.running = true) (hbug : s.haltBug = false) (hop : s.busRead s.pc = 0xFB) :
    step s = .next ({ s with
      pc := s.pc + 1, ime := s.ime || s.eiPending, eiPending := true, cycles := s.cycles + 4 } : State).interruptCheck := by
  rw [step_op (i := .ei) hrun hbug (hop ▸ rfl) rfl, settleEi_of_ne_di (i := .ei) _ _ nofun]
  rfl

theorem step_nop (hrun : s.running = true) (hbug : s.haltBug = false) (hop : s.busRead s.pc = 0x00) :
    step s = .next ({ s with
      pc := s.pc + 1, ime := s.ime || s.eiPending, eiPending := false, cycles := s.cycles + 4 } : State).interruptCheck := by
  rw [step_op (i := .nop) hrun hbug (hop ▸ rfl) rfl, settleEi_of_ne_di (i := .nop) _ _ nofun]
  rfl

/-- DI leaves no interrupt to take: IME is 0 at the interrupt check. -/
theorem step_di (hrun : s.running = true) (hbug : s.haltBug = false) (hop : s.busRead s.pc = 0xF3) :
    step s = .next { s with pc := s.pc + 1, ime := false, eiPending := false, cycles := s.cycles + 4 } := by
  rw [step_op (i := .di) hrun hbug (hop ▸ rfl) rfl, settleEi_di, interruptCheck_idle (.inl rfl)]
  rfl

end OneByte

/-! ### HALT right after EI (60 R415) -/

/-- The state at the interrupt check of the HALT: the action set the HALT bug, and the EI delay set IME. -/
def afterEiHalt (s : State) : State :=
  { s with pc := s.pc + 1, ime := true, eiPending := false, haltBug := true, cycles := s.cycles + 4 }

theorem step_halt_after_ei {s : State} (hrun : s.running = true) (hbug : s.haltBug = false) (hime : s.ime = false)
    (hei : s.eiPending = true) (hpending : s.pending ≠ 0) (hop : s.busRead s.pc = 0x76) :
    step s = .next (((afterEiHalt s).dispatch (lowestSource s.pending)).tick 20) := by
  have hexec : exec .halt { s with pc := s.pc + 1 } =
      .next { s with pc := s.pc + 1, haltBug := true, cycles := s.cycles + 4 } :=
    (haltOp_eq _ 4).trans (congrArg _ (if_pos ⟨hime, hpending⟩))
  have hsettle : ({ s with pc := s.pc + 1, haltBug := true, cycles := s.cycles + 4 } : State).settleEi s.eiPending .halt =
      afterEiHalt s := by
    rw [settleEi_of_ne_di (i := .halt) _ _ nofun, hei, Bool.or_true]
    rfl
  rw [step_op hrun hbug (hop ▸ rfl) hexec, hsettle]
  exact congrArg _ (interruptCheck_taken (s := afterEiHalt s) rfl hpending)

/-- The HALT bug takes the return address back to the HALT itself. -/
theorem dispatchPushed_afterEiHalt (s : State) :
    dispatchPushed (afterEiHalt s) =
      Pushed { s with pc := s.pc + 1, ime := true, eiPending := false, cycles := s.cycles + 4, haltBug := false } s.pc := by
  have hret : (if (afterEiHalt s).haltBug then (afterEiHalt s).pc - 1 else (afterEiHalt s).pc) = s.pc :=
    BitVec.add_sub_cancel s.pc 1
  rw [dispatchPushed_pushed, hret]
  rfl

/-- A dispatch from a state that runs with no EI pending. -/
theorem dispatch_tick_eq {s : State} (hhalted : s.halted = false) (hei : s.eiPending = false) (k n : Nat) :
    (s.dispatch k).tick n =
      { dispatchPushed s with
        ime := false, pc := BitVec.ofNat 16 (0x40 + 8 * k), cycles := s.cycles + n, io := (s.dispatch k).io } := by
  simp only [State.tick, dispatch_eq, dispatchPushed_cycles, dispatchPushed_eiPending, dispatchPushed_halted, hei, hhalted]

/-- Settles O11: the two fetches of `stepRunsDecoded`, then each one-byte instruction by its own step. -/
theorem eiDelay : Obligations.EiDelay := by
  refine ⟨fun s u i rest hrun hbug hdecode hexec => ?_, fun s u i rest hrun hbug hdecode hexec => ?_,
    fun s hrun hbug hop => step_ei hrun hbug hop, fun s hrun hbug hop hime hei => ?_,
    fun s hrun hbug hop hei hnone => ?_, fun s hrun hbug hop => step_di hrun hbug hop,
    fun s hrun hbug hime hei hpending hop => ?_⟩
  · rw [step_decoded hrun hbug hdecode hexec, settleEi_eq]
  · rw [stepRunsDecoded.2 s i rest hrun hbug hdecode, hexec, ← settleEi_eq]
    rfl
  · rw [step_ei hrun hbug hop, hime, hei, Bool.or_false, interruptCheck_idle (.inl rfl)]
  · rw [step_nop hrun hbug hop, hei, Bool.or_true]
    exact congrArg _ (interruptCheck_idle (.inr hnone))
  · have hhalted : s.halted = false := (running_iff.mp hrun).1
    exact ⟨_, _, step_halt_after_ei hrun hbug hime hei hpending hop, dispatchPushed_afterEiHalt s,
      dispatch_tick_eq (s := afterEiHalt s) hhalted rfl _ 20, fun _ hp => dispatch_port_ne _ _ hp,
      fun _ hj => dispatch_ifReg_getLsbD _ _ hj⟩

end Sys2Proof.Proofs

/-! PROOFS. StepProgress: every instruction but an unused one has a next state, and three bytes always start with one. -/

namespace Sys2Proof.Proofs

open Sys2Proof Sys2Proof.Machine Sys2Proof.Laws

/-- The unused opcodes (46 R335). -/
def unusedOpcodes : List Nat := [0xD3, 0xDB, 0xDD, 0xE3, 0xE4, 0xEB, 0xEC, 0xED, 0xF4, 0xFC, 0xFD]

/-- An instruction has a next state, or it is an unused opcode, of one byte, under LOCKUP. -/
inductive Progress (i : Instr) (s : State) : Prop
  | next {t : State} (h : exec i s = .next t)
  | lockup {b : Byte} (bytes : encode i = [b]) (opcode : b.toNat ∈ unusedOpcodes)
      (param : s.params.unusedOpcode = .lockup) (h : exec i s = .fault .lockup)

theorem progress_of_unused {i : Instr} {s : State} {b : Byte} (bytes : encode i = [b]) (opcode : b.toNat ∈ unusedOpcodes)
    (h : exec i s = unusedOp 4 s) : Progress i s := by
  cases hparam : s.params.unusedOpcode with
  | nop => exact .next (h.trans (unusedOp_nop 4 hparam))
  | lockup => exact .lockup bytes opcode hparam (h.trans (unusedOp_lockup 4 hparam))

theorem exec_progress (i : Instr) (s : State) : Progress i s := by
  cases i
  case jr_NZ_e8 | jr_Z_e8 | jr_NC_e8 | jr_C_e8 | jp_NZ_a16 | jp_Z_a16 | jp_NC_a16 | jp_C_a16 =>
    exact .next (jumpIf_eq s _ _ _ _)
  case call_NZ_a16 | call_Z_a16 | call_NC_a16 | call_C_a16 => exact .next (callIf_eq s _ _ _ _)
  case ret_NZ | ret_Z | ret_NC | ret_C => exact .next (retIf_eq s _ _ _)
  case halt => exact .next (haltOp_eq s 4)
  case stop => exact .next (stopOp_eq s 4)
  case unused_D3 | unused_DB | unused_DD | unused_E3 | unused_E4 | unused_EB | unused_EC | unused_ED | unused_F4 | unused_FC |
      unused_FD => exact progress_of_unused rfl (by decide) rfl
  -- The operations left answer a next state whatever the state is.
  all_goals exact .next rfl

/-- The first byte of what decodes is the first of its encoding. -/
theorem head_of_decode {b b' : Byte} {bs rest : List Byte} {i : Instr} (h : decode (b :: bs) = .ok (i, rest))
    (bytes : encode i = [b']) : b = b' := by
  have hbytes := (encode_of_decode h).1
  rw [bytes] at hbytes
  exact (List.cons.inj hbytes).1.symm

/-- A RUN step goes on, or stops on an unused opcode. -/
theorem step_running {s : State} (hrun : s.running = true) :
    (∃ t, step s = .next t) ∨
    (step s = .fault .lockup ∧ s.params.unusedOpcode = .lockup ∧ (s.busRead s.pc).toNat ∈ unusedOpcodes) := by
  obtain ⟨i, rest, hdecode, -⟩ :=
    decodeTotal [s.busRead s.pc, s.busRead s.afterOpcode, s.busRead (s.afterOpcode + 1)] le_rfl
  have hstep := step_of_fetch hrun (fetch_of_decode hdecode)
  cases exec_progress i { s with pc := s.afterOpcode + BitVec.ofNat 16 i.length - 1, haltBug := false } with
  | next h => exact .inl ⟨_, hstep.trans (by rw [h])⟩
  | lockup bytes opcode param h => exact .inr ⟨hstep.trans (by rw [h]), param, head_of_decode hdecode bytes ▸ opcode⟩

/-- Settles O12: a stalled step always goes on; a RUN step by `step_running`. -/
theorem stepProgress : Obligations.StepProgress := by
  intro s
  cases hstopped : s.stopped with
  | true => exact .inl ⟨_, step_stopped hstopped⟩
  | false =>
    cases hhalted : s.halted with
    | true => exact .inl ⟨_, step_halted hstopped hhalted⟩
    | false =>
      have hrun : s.running = true := running_iff.mpr ⟨hhalted, hstopped⟩
      exact (step_running hrun).imp_right fun ⟨hfault, hparam, hopcode⟩ => ⟨hfault, hparam, hrun, hopcode⟩

end Sys2Proof.Proofs
